-- ==== Sys2Proof/Word.lean ====
section
/-! DEFINITION. The word types of the SIO block: the widths of 00_scope.md R10. -/

namespace Sys2Proof

/-- An 8-bit byte: a FIFO entry, the transmit slot's byte, a byte of a connection stream (R10). -/
abbrev Byte := BitVec 8

/-- A 16-bit register: Control, Mode, BaudRate (R10). -/
abbrev Half := BitVec 16

/-- A 32-bit value crossing the register port: every value read or written (R82, R83). -/
abbrev Word := BitVec 32

end Sys2Proof
end

