-- ==== Sys2Proof/Syntax.lean ====
section
/-! DEFINITION. The operations of spec/opcode_table.json as one inductive, one constructor a row
(30_encoding.md R111 to R116), the persistence image (R121), and the names under which bytes are rejected. -/

namespace Sys2Proof

/-- The persistence image: four fixed-width integers, in this order (30_encoding.md R121). -/
structure Image where
  ctrl : Half
  stat : Word
  mode : Half
  baud : Half
deriving DecidableEq, Repr

/-- One operation of the block or of its environment (R111). A register access carries its 32-bit value where it
writes one (R113) and its offset where the table's row is the default row (R112, R113). -/
inductive Instr
  /-- `RD_DATA`, descriptor 0x00 (R141). -/
  | rdData
  /-- `RD_STAT`, descriptor 0x04 (R145). -/
  | rdStat
  /-- `RD_MODE`, descriptor 0x08 (R147). -/
  | rdMode
  /-- `RD_CTRL`, descriptor 0x0A (R150). -/
  | rdCtrl
  /-- `RD_BAUD`, descriptor 0x0E (R152). -/
  | rdBaud
  /-- `RD_UNK`, every other class-0b00 descriptor (R154). -/
  | rdUnk (offset : BitVec 4)
  /-- `WR_DATA`, descriptor 0x10 (R144). -/
  | wrData (value : Word)
  /-- `WR_STAT`, descriptor 0x14 (R146). -/
  | wrStat (value : Word)
  /-- `WR_MODE`, descriptor 0x18 (R148). -/
  | wrMode (value : Word)
  /-- `WR_CTRL`, descriptor 0x1A (R151). -/
  | wrCtrl (value : Word)
  /-- `WR_BAUD`, descriptor 0x1E (R153). -/
  | wrBaud (value : Word)
  /-- `WR_UNK`, every other class-0b01 descriptor (R155). -/
  | wrUnk (offset : BitVec 4) (value : Word)
  /-- `TICK`, descriptor 0x20 (R205). -/
  | tick
  /-- `FIRE`, descriptor 0x21 (R206). -/
  | fire
  /-- `CONSTRUCT`, descriptor 0x30 (R301). -/
  | construct
  /-- `SHUTDOWN`, descriptor 0x31 (R302). -/
  | shutdown
  /-- `ATTACH`, descriptor 0x32 (R303). -/
  | attach
  /-- `DETACH`, descriptor 0x33 (R304). -/
  | detach
  /-- `SAVE`, descriptor 0x34 (R306). -/
  | save
  /-- `LOAD`, descriptor 0x35 (R305). -/
  | load (image : Image)
  /-- `LINK_UP`, descriptor 0x36 (R310). -/
  | linkUp
  /-- `LINK_DOWN`, descriptor 0x37 (R311). -/
  | linkDown
  /-- `PEER_SEND`, descriptor 0x38; its operand is a non-empty list of bytes (R312): the first and the rest. -/
  | peerSend (first : Byte) (rest : List Byte)
  /-- `PEER_RECV`, descriptor 0x39 (R313). -/
  | peerRecv
deriving DecidableEq, Repr

/-- Why the bytes at the head of a script are no operation. -/
inductive DecodeError
  /-- The script holds no further byte: the run is over (70_reset_and_hazards.md R398; log 2). -/
  | endOfScript
  /-- A byte with bit 6 or 7 set stands where a 6-bit descriptor must (R111; log 1). -/
  | notADescriptor (byte : Byte)
  /-- A reserved descriptor, 0x22 to 0x2F or 0x3A to 0x3F: "reserved and refused by name" (R114 to R116). -/
  | reserved (descriptor : BitVec 6)
  /-- The operand bytes of this descriptor are cut off or ill-formed (log 1). -/
  | badOperand (descriptor : BitVec 6)
deriving DecidableEq, Repr

end Sys2Proof
end

