-- ==== Sys2Proof/WellFormed.lean ====
section
/-! DEFINITION. Which operations are well-formed: an access of the default rows RD_UNK and WR_UNK carries an offset
that is none of the five registers' offsets (30_encoding.md R112, R113, R116). Every other operand is well-formed by
its type; a PEER_SEND list is non-empty by its two fields (R312). -/

namespace Sys2Proof

/-- The five offsets at which a register stands (20_memory.md R80, 30_encoding.md R110). -/
def registerOffset (offset : BitVec 4) : Bool :=
  offset == 0x0#4 || offset == 0x4#4 || offset == 0x8#4 || offset == 0xA#4 || offset == 0xE#4

/-- The operands of `i` are ones the spec's operation has. -/
def Instr.wellFormed : Instr → Bool
  | .rdUnk offset => !registerOffset offset
  | .wrUnk offset _ => !registerOffset offset
  | .rdData | .rdStat | .rdMode | .rdCtrl | .rdBaud => true
  | .wrData _ | .wrStat _ | .wrMode _ | .wrCtrl _ | .wrBaud _ => true
  | .tick | .fire => true
  | .construct | .shutdown | .attach | .detach | .save | .load _ => true
  | .linkUp | .linkDown | .peerSend _ _ | .peerRecv => true

/-- `Instr.wellFormed` as a proposition. -/
abbrev Instr.WellFormed (i : Instr) : Prop := i.wellFormed = true

end Sys2Proof
end

