-- ==== Sys2Proof/Decode.lean ====
section
/-! DEFINITION. Decoding one operation from the bytes of a script, total and rejecting by name, and the encoder.
The descriptor is the spec's (30_encoding.md R111 to R116). That a descriptor stands in the low six bits of a byte
with bits 7:6 zero, and that the operand bytes follow it least significant byte first, is the model's notation (log 1). -/

namespace Sys2Proof

/-! ## Operand bytes -/

/-- A 16-bit operand, least significant byte first (log 1). -/
def takeHalf : List Byte → Option (Half × List Byte)
  | b0 :: b1 :: rest => some (b1 ++ b0, rest)
  | _ => none

/-- A 32-bit operand, least significant byte first (log 1). -/
def takeWord : List Byte → Option (Word × List Byte)
  | b0 :: b1 :: b2 :: b3 :: rest => some (b3 ++ b2 ++ b1 ++ b0, rest)
  | _ => none

/-- An image operand: `ctrl`, `stat`, `mode`, `baud`, in that order (R121). -/
def takeImage (bytes : List Byte) : Option (Image × List Byte) := do
  let (ctrl, r1) ← takeHalf bytes
  let (stat, r2) ← takeWord r1
  let (mode, r3) ← takeHalf r2
  let (baud, r4) ← takeHalf r3
  return (⟨ctrl, stat, mode, baud⟩, r4)

/-- A non-empty list of bytes (R312): each byte is preceded by 0x01 when another follows it and by 0x00 when it is
the last (log 1). -/
def takeBytes : List Byte → Option ((Byte × List Byte) × List Byte)
  | more :: b :: rest =>
    if more = 0#8 then some ((b, []), rest)
    else if more = 1#8 then
      match takeBytes rest with
      | some ((b', bs), rest') => some ((b, b' :: bs), rest')
      | none => none
    else none
  | _ => none

/-! ## Descriptors -/

/-- Class 0b00, a register read, by its offset (R112); an offset of no exact row is RD_UNK (R116). -/
def decodeRead (offset : BitVec 4) : Instr :=
  if offset = 0x0#4 then .rdData
  else if offset = 0x4#4 then .rdStat
  else if offset = 0x8#4 then .rdMode
  else if offset = 0xA#4 then .rdCtrl
  else if offset = 0xE#4 then .rdBaud
  else .rdUnk offset

/-- Class 0b01, a register write, by its offset (R113); an offset of no exact row is WR_UNK (R116). -/
def decodeWrite (offset : BitVec 4) (value : Word) : Instr :=
  if offset = 0x0#4 then .wrData value
  else if offset = 0x4#4 then .wrStat value
  else if offset = 0x8#4 then .wrMode value
  else if offset = 0xA#4 then .wrCtrl value
  else if offset = 0xE#4 then .wrBaud value
  else .wrUnk offset value

/-- Class 0b10, an internal event (R114). -/
def decodeInternal (d : BitVec 6) (rest : List Byte) : Except DecodeError (Instr × List Byte) :=
  if d = 0x20#6 then .ok (.tick, rest)
  else if d = 0x21#6 then .ok (.fire, rest)
  else .error (.reserved d)

/-- Class 0b11, a host or environment event (R115). -/
def decodeHost (d : BitVec 6) (rest : List Byte) : Except DecodeError (Instr × List Byte) :=
  if d = 0x30#6 then .ok (.construct, rest)
  else if d = 0x31#6 then .ok (.shutdown, rest)
  else if d = 0x32#6 then .ok (.attach, rest)
  else if d = 0x33#6 then .ok (.detach, rest)
  else if d = 0x34#6 then .ok (.save, rest)
  else if d = 0x35#6 then
    match takeImage rest with
    | some (image, rest') => .ok (.load image, rest')
    | none => .error (.badOperand d)
  else if d = 0x36#6 then .ok (.linkUp, rest)
  else if d = 0x37#6 then .ok (.linkDown, rest)
  else if d = 0x38#6 then
    match takeBytes rest with
    | some ((b, bs), rest') => .ok (.peerSend b bs, rest')
    | none => .error (.badOperand d)
  else if d = 0x39#6 then .ok (.peerRecv, rest)
  else .error (.reserved d)

/-- Decoding by descriptor `d`, class `d[5:4]` and selector `d[3:0]` (R111); `rest` is what follows the descriptor. -/
def decodeDescriptor (d : BitVec 6) (rest : List Byte) : Except DecodeError (Instr × List Byte) :=
  if d.extractLsb' 4 2 = 0b00#2 then .ok (decodeRead (d.extractLsb' 0 4), rest)
  else if d.extractLsb' 4 2 = 0b01#2 then
    match takeWord rest with
    | some (value, rest') => .ok (decodeWrite (d.extractLsb' 0 4) value, rest')
    | none => .error (.badOperand d)
  else if d.extractLsb' 4 2 = 0b10#2 then decodeInternal d rest
  else decodeHost d rest

/-- The first operation of a script and the bytes after it. -/
def decode : List Byte → Except DecodeError (Instr × List Byte)
  | [] => .error .endOfScript
  | b :: rest =>
    if b.extractLsb' 6 2 = 0#2 then decodeDescriptor (b.extractLsb' 0 6) rest
    else .error (.notADescriptor b)

/-! ## Encoding -/

/-- The bytes of a 16-bit operand. -/
def halfBytes (v : Half) : List Byte := [v.extractLsb' 0 8, v.extractLsb' 8 8]

/-- The bytes of a 32-bit operand. -/
def wordBytes (v : Word) : List Byte :=
  [v.extractLsb' 0 8, v.extractLsb' 8 8, v.extractLsb' 16 8, v.extractLsb' 24 8]

/-- The bytes of an image operand (R121). -/
def imageBytes (m : Image) : List Byte :=
  halfBytes m.ctrl ++ (wordBytes m.stat ++ (halfBytes m.mode ++ halfBytes m.baud))

/-- The bytes of a non-empty list operand. -/
def listBytes : Byte → List Byte → List Byte
  | b, [] => [0#8, b]
  | b, b' :: bs => 1#8 :: b :: listBytes b' bs

/-- The descriptor of an operation (R112 to R115): the opcode table's `match`, with the offset of a default row. -/
def Instr.descriptor : Instr → BitVec 6
  | .rdData => 0x00#6
  | .rdStat => 0x04#6
  | .rdMode => 0x08#6
  | .rdCtrl => 0x0A#6
  | .rdBaud => 0x0E#6
  | .rdUnk offset => 0b00#2 ++ offset
  | .wrData _ => 0x10#6
  | .wrStat _ => 0x14#6
  | .wrMode _ => 0x18#6
  | .wrCtrl _ => 0x1A#6
  | .wrBaud _ => 0x1E#6
  | .wrUnk offset _ => 0b01#2 ++ offset
  | .tick => 0x20#6
  | .fire => 0x21#6
  | .construct => 0x30#6
  | .shutdown => 0x31#6
  | .attach => 0x32#6
  | .detach => 0x33#6
  | .save => 0x34#6
  | .load _ => 0x35#6
  | .linkUp => 0x36#6
  | .linkDown => 0x37#6
  | .peerSend _ _ => 0x38#6
  | .peerRecv => 0x39#6

/-- The operand bytes of an operation. -/
def Instr.operandBytes : Instr → List Byte
  | .wrData v | .wrStat v | .wrMode v | .wrCtrl v | .wrBaud v | .wrUnk _ v => wordBytes v
  | .load m => imageBytes m
  | .peerSend b bs => listBytes b bs
  | .rdData | .rdStat | .rdMode | .rdCtrl | .rdBaud | .rdUnk _ => []
  | .tick | .fire | .construct | .shutdown | .attach | .detach | .save => []
  | .linkUp | .linkDown | .peerRecv => []

/-- The bytes of an operation: its descriptor with bits 7:6 zero, then its operand bytes. -/
def encode (i : Instr) : List Byte := (0#2 ++ i.descriptor) :: i.operandBytes

/-! ## Words of the opcode table -/

/-- The bytes of a table word: the first `nbits` bits of `w` in whole bytes, the first byte least significant, then
operand bytes of zeros, as many as the longest operand of zeros takes (an image, 10 bytes). -/
def tableBytes (nbits w : Nat) : List Byte :=
  (List.range ((nbits + 7) / 8)).map (fun k => BitVec.ofNat 8 (w >>> (8 * k))) ++ List.replicate 10 0#8

/-- The operation the decoder reads from a word of the opcode table. -/
def decodeTableWord (nbits w : Nat) : Option Instr :=
  match decode (tableBytes nbits w) with
  | .ok (i, _) => some i
  | .error _ => none

end Sys2Proof
end

