-- ==== Sys2Proof/Config.lean ====
section
/-! DEFINITION. The parameters of an instance (00_scope.md R9, 10_state.md R64) and the free values.
The parameters that are plain data form the structure `Config`, which State carries unchanged (log 4); those
that are functions, and the values the spec leaves open, are constants without a body. -/

namespace Sys2Proof

/-- `PROTOCOL` (R9, D32): which of the two protocol steps a transfer performs. -/
inductive Protocol
  | unframed
  | framed
deriving DecidableEq, Repr, Inhabited

/-- `RX_READ_POLICY` (R9, D10): what a data read removes from the FIFO. -/
inductive RxReadPolicy
  | peek
  | dequeueOne
  | dequeuePacked
deriving DecidableEq, Repr, Inhabited

/-- `ENABLE_CLEAR_SENSE` (R9, D11): whether "being cleared" is a change of the bit or its written level. -/
inductive ClearSense
  | edge
  | level
deriving DecidableEq, Repr, Inhabited

/-- The configuration of one instance, fixed at construction and not written by any operation (R64).
`maxSliceTicks` is at least 1 (R9); that is a clause of the invariant `State.Inv`. -/
structure Config where
  /-- `PROTOCOL` (D32). -/
  protocol : Protocol
  /-- `MAX_SLICE_TICKS ≥ 1` (D16). -/
  maxSliceTicks : Nat
  /-- `IRQ_CHANNEL` (D23). -/
  irqChannel : Nat
  /-- `RX_READ_POLICY` (D10). -/
  rxReadPolicy : RxReadPolicy
  /-- `ENABLE_CLEAR_SENSE` (D11). -/
  enableClearSense : ClearSense
  /-- `SIO_BASE` (D5), outside the block: no operation reads it. -/
  sioBase : Nat
deriving DecidableEq, Repr

/-- `PROTOCOL` of the instance that `State.reset` stands for: open (R9), no value can be proved of it (log 4). -/
opaque Config.someProtocol : Protocol

/-- `MAX_SLICE_TICKS − 1` of the instance that `State.reset` stands for: open (R9, log 4). -/
opaque Config.someMaxSliceLessOne : Nat

/-- `IRQ_CHANNEL` of the instance that `State.reset` stands for: open (R9, log 4). -/
opaque Config.someIrqChannel : Nat

/-- `SIO_BASE` of the instance that `State.reset` stands for: open (R9, log 4). -/
opaque Config.someSioBase : Nat

/-- The configuration `State.reset` carries: the spec's defaults PEEK and EDGE (R9), every other parameter open (log 4). -/
def Config.initial : Config where
  protocol := Config.someProtocol
  maxSliceTicks := Config.someMaxSliceLessOne + 1
  irqChannel := Config.someIrqChannel
  rxReadPolicy := .peek
  enableClearSense := .edge
  sioBase := Config.someSioBase

/-- The lost layout of `RX_PACK_2` (R142, N9) before the constraints P1 and P2 are put on it: no value can be proved of it (log 5). -/
opaque Config.rxPack2 : Byte → Byte → Word

/-- The lost layout of `RX_PACK_3` (R142, N9), as `Config.rxPack2`. -/
opaque Config.rxPack3 : Byte → Byte → Byte → Word

/-- The lost layout of `RX_PACK_4` (R142, N9), as `Config.rxPack2`. -/
opaque Config.rxPack4 : Byte → Byte → Byte → Byte → Word

/-- FREE VALUE: the n-th draw of a `Conn.Write` for which the environment's list holds no draw (R317, I14, log 6). -/
opaque Config.freeAccept : Nat → Nat

end Sys2Proof
end

