-- ==== Sys2Proof/Machine/State.lean ====
section
/-! DEFINITION. The state of the SIO block and of its environment, as plain data: 10_state.md R30 to R66,
44_host_events.md R314; the reasons a step can stop; and the state at power-on (R70). -/

namespace Sys2Proof.Machine

/-- `LIFE` (10_state.md R65). -/
inductive Life
  | unbuilt
  | live
  | dead
deriving DecidableEq, Repr

/-- The connection agent's state, in being only while a connection is attached (44_host_events.md R314). -/
structure Connection where
  /-- `CONN_UP`: the transport is established. -/
  up : Bool
  /-- `CONN_IN`: inbound bytes not yet read, oldest first. -/
  inbound : List Byte
  /-- `CONN_OUT`: bytes accepted from the block and not yet taken by the peer, oldest first. -/
  outbound : List Byte
deriving DecidableEq, Repr

/-- One output of the block (10_state.md R66). -/
inductive Event
  /-- A register read returned this value. -/
  | readResult (value : Word)
  /-- `RequestInterrupt(channel)` was called (60_exceptions.md R343). -/
  | requestInterrupt (channel : Nat)
  /-- `Conn.Write(bytes)` was called and accepted this many bytes (44_host_events.md R317). -/
  | connWrite (bytes : List Byte) (accepted : Nat)
  /-- A SAVE returned this image (44_host_events.md R306). -/
  | saveImage (image : Image)
deriving DecidableEq, Repr

/-- The state. Fields are the spec's names in lower camel case; the last three are the model's own (INVENTORY.md). -/
structure State where
  /-- `LIFE` (R65). -/
  life : Life
  /-- The configuration of the instance (R64), which no operation writes (log 4). -/
  config : Config
  /-- `CTRL` (R32). -/
  ctrl : Half
  /-- The latch `RXPARITY` (R45). -/
  rxParity : Bool
  /-- The latch `RXFIFOOVERRUN` (R45). -/
  rxFifoOverrun : Bool
  /-- The latch `RXBADSTOPBIT` (R45). -/
  rxBadStopBit : Bool
  /-- The latch `INTR` (R45, R345). -/
  intr : Bool
  /-- The mirror `DTRIN` (R46). -/
  dtrIn : Bool
  /-- The mirror `CTSIN` (R46). -/
  ctsIn : Bool
  /-- `MODE` (R48). -/
  mode : Half
  /-- `BAUD` (R50). -/
  baud : Half
  /-- `FIFO`, oldest first (R51). -/
  fifo : List Byte
  /-- `TXFULL` (R53). -/
  txFull : Bool
  /-- `TXBYTE` (R53). -/
  txByte : Byte
  /-- `EV_ACTIVE` (R61). -/
  evActive : Bool
  /-- `EV_PERIOD` (R60). -/
  evPeriod : Nat
  /-- `EV_ELAPSED` (R62). -/
  evElapsed : Nat
  /-- The connection (R314); `CONN_ATTACHED` (R63) is whether there is one (log 9). -/
  conn : Option Connection
  /-- The event history, oldest first (R66). -/
  events : List Event
  /-- What each PEER_RECV returned to the peer, oldest first (R313, log 8). -/
  peerResults : List (List Byte)
  /-- The bytes of the operations still to be performed (R122, R398, log 2). -/
  script : List Byte
  /-- The environment's draws for coming `Conn.Write` calls, oldest first (R317, log 6). -/
  acceptDraws : List Nat
  /-- How many draws were taken from `Config.freeAccept` (log 6). -/
  drawCount : Nat
deriving DecidableEq, Repr

/-- The block raises no exception and no access fails (60_exceptions.md R340): there is no fault. -/
inductive Fault
deriving DecidableEq, Repr

/-- Why an operation is refused: it has no meaning and the run is marked refused (44_host_events.md R300). -/
inductive Refusal
  /-- Raised by the arm of an operation that has no meaning in the model yet. Safe. -/
  | notModelled (mnemonic : String)
  /-- Raised by every operation whose lifecycle requirement fails: CONSTRUCT unless UNBUILT, every other operation
  unless LIVE (R300, I19). Safe. -/
  | lifecycle (life : Life)
  /-- Raised by ATTACH while a connection is attached (R303, I19). Safe. -/
  | alreadyAttached
  /-- Raised by DETACH, LINK_UP, LINK_DOWN, PEER_SEND and PEER_RECV while no connection is attached (R304, R310 to
  R313, I19). Safe. -/
  | notAttached
  /-- Raised by the step where the script's next bytes are no operation: its end, a reserved descriptor (R116, I20), or
  bytes outside the model's notation (log 1, log 2). Safe. -/
  | undecodable (reason : DecodeError)
deriving DecidableEq, Repr

/-- Power-on, before the construction reset (10_state.md R70, first column; D24; log 3), with no outputs, no operation
pending and no draws. -/
def State.reset : State where
  life := .unbuilt
  config := Config.initial
  ctrl := 0x0000#16
  rxParity := false
  rxFifoOverrun := false
  rxBadStopBit := false
  intr := false
  dtrIn := false
  ctsIn := false
  mode := 0x0000#16
  baud := 0x0000#16
  fifo := []
  txFull := false
  txByte := 0x00#8
  evActive := false
  evPeriod := 0
  evElapsed := 0
  conn := none
  events := []
  peerResults := []
  script := []
  acceptDraws := []
  drawCount := 0

end Sys2Proof.Machine
end

