-- ==== Sys2Proof/Machine/Flags.lean ====
section
/-! DEFINITION. The fields of the Control register (10_state.md R32 to R42), the derived Status bits (R44) and the
Status word (R43). Bit positions are the spec's decisions D1 and D2 (log 14). -/

namespace Sys2Proof.Machine

/-! ## Control -/

/-- `CTRL.TXEN`, bit 0 (R33). -/
def State.txEn (s : State) : Bool := s.ctrl.getLsbD 0

/-- `CTRL.DTROUT`, bit 1 (R34). -/
def State.dtrOut (s : State) : Bool := s.ctrl.getLsbD 1

/-- `CTRL.RXEN`, bit 2 (R35). -/
def State.rxEn (s : State) : Bool := s.ctrl.getLsbD 2

/-- `CTRL.TXINTEN`, bit 10 (R41). -/
def State.txIntEn (s : State) : Bool := s.ctrl.getLsbD 10

/-- `CTRL.RXINTEN`, bit 11 (R42). -/
def State.rxIntEn (s : State) : Bool := s.ctrl.getLsbD 11

/-- What is stored of a value written or loaded into CTRL: all but RESET (bit 6) and ACK (bit 4) (R32, R151, R305). -/
def storedCtrl (v : Half) : Half := v &&& 0xFFAF#16

/-! ## Status -/

/-- `TXRDY = ¬TXFULL` (R44). -/
def State.txRdy (s : State) : Bool := !s.txFull

/-- `TXDONE = ¬TXFULL` (R44). -/
def State.txDone (s : State) : Bool := !s.txFull

/-- `RXFIFONEMPTY = (|FIFO| > 0)` (R44). -/
def State.rxFifoNEmpty (s : State) : Bool := decide (0 < s.fifo.length)

/-- A bit of the Status word, at its place. -/
def statusBit (b : Bool) (place : Nat) : Word := (BitVec.ofBool b).setWidth 32 <<< place

/-- `STAT` (R43); bits 6 and 31:10 are 0 (R47). -/
def State.status (s : State) : Word :=
  statusBit s.txRdy 0 ||| statusBit s.rxFifoNEmpty 1 ||| statusBit s.txDone 2 ||| statusBit s.rxParity 3
    ||| statusBit s.rxFifoOverrun 4 ||| statusBit s.rxBadStopBit 5 ||| statusBit s.dtrIn 7 ||| statusBit s.ctsIn 8
    ||| statusBit s.intr 9

end Sys2Proof.Machine
end

