-- ==== Sys2Proof/Machine/Operands.lean ====
section
/-! DEFINITION. Operand forms: how a written 32-bit value is narrowed and a register widened (20_memory.md R83), the
packing of a data read (40_register_port.md R142), the register window (20_memory.md R80), the persistence image of a
state (44_host_events.md R306) and the transfer period (41_scheduler.md R201). -/

namespace Sys2Proof.Machine

/-! ## Values at the register port (R83) -/

/-- `value[7:0]`, what WR_DATA uses. -/
def lowByte (value : Word) : Byte := value.extractLsb' 0 8

/-- `value[15:0]`, what WR_MODE, WR_CTRL and WR_BAUD use. -/
def lowHalf (value : Word) : Half := value.extractLsb' 0 16

/-- `zext_32` of a 16-bit register, what RD_MODE, RD_CTRL and RD_BAUD return. -/
def zext32 (v : Half) : Word := v.setWidth 32

/-- The value of an unknown offset and of a data read with the FIFO empty (00_scope.md R8). -/
def allOnes32 : Word := 0xFFFFFFFF#32

/-- The offset an address of the host reaches: the 16 addresses from `SIO_BASE` are the window, and no other address
reaches the block (R80, N13; log 18). -/
def windowOffset (c : Config) (address : Nat) : Option (BitVec 4) :=
  if c.sioBase ≤ address ∧ address < c.sioBase + 16 then some (BitVec.ofNat 4 (address - c.sioBase)) else none

/-! ## Data-read packing (R142) -/

/-- Puts the constraints P1 (bits 31:24 are 0) and P2 (every set bit of `b0` is set in bits 23:16) on a lost layout;
every word that meets both comes out of some `raw` (log 5). -/
def constrainPack (b0 : Byte) (raw : Word) : Word := (raw &&& 0x00FFFFFF#32) ||| (b0.setWidth 32 <<< 16)

/-- `RxPack` of one to four bytes, oldest first (R142). The result for no byte is never asked for (R141 returns the
sentinel), and a fifth byte is never packed (R141 takes at most four). -/
def rxPack : List Byte → Word
  | [] => allOnes32
  | [b0] => b0.setWidth 32 <<< 16
  | [b0, b1] => constrainPack b0 (Config.rxPack2 b0 b1)
  | [b0, b1, b2] => constrainPack b0 (Config.rxPack3 b0 b1 b2)
  | b0 :: b1 :: b2 :: b3 :: _ => constrainPack b0 (Config.rxPack4 b0 b1 b2 b3)

/-- What a data read leaves in the FIFO after packing its first `k` bytes: `ApplyReadPolicy(k)` (R143). -/
def fifoAfterRead (policy : RxReadPolicy) (k : Nat) (fifo : List Byte) : List Byte :=
  match policy with
  | .peek => fifo
  | .dequeueOne => fifo.tail
  | .dequeuePacked => fifo.drop k

/-! ## Persistence image (R121, R306) -/

/-- `{ctrl: CTRL, stat: STAT, mode: MODE, baud: BAUD}` (R306). -/
def State.image (s : State) : Image := ⟨s.ctrl, s.status, s.mode, s.baud⟩

/-! ## Period (R201) -/

/-- `MULT = [1, 16, 64, 0]`, indexed by the reload factor (R8, R49). -/
def multiplier (reload : BitVec 2) : Nat :=
  match reload.toNat with
  | 0 => 1
  | 1 => 16
  | 2 => 64
  | _ => 0

/-- `MODE.RELOAD = MODE[1:0]` (R49). -/
def reloadFactor (mode : Half) : BitVec 2 := mode.extractLsb' 0 2

/-- `TicksBetweenTransfers()` (R201): the exact product rounded down to an even number, at least the multiplier. -/
def ticksBetweenTransfers (mode baud : Half) : Nat :=
  max (baud.toNat * multiplier (reloadFactor mode) / 2 * 2) (multiplier (reloadFactor mode))

end Sys2Proof.Machine
end

