-- ==== Sys2Proof/Machine/Ops.lean ====
section
/-! DEFINITION. The named operations over the state that the spec's pseudocode uses (00_scope.md R13): outputs and
RaiseInterrupt, the FIFO pushes, the connection's operations, the scheduler collaborator, SoftReset, the guards of an
operation, and taking the next operation from the script. -/

namespace Sys2Proof.Machine

/-! ## Small updates -/

/-- Records one output at the end of the history (10_state.md R66). -/
def State.emit (e : Event) (s : State) : State := { s with events := s.events ++ [e] }

/-- Writes both input-level mirrors (R46). -/
def State.setMirrors (dtr cts : Bool) (s : State) : State := { s with dtrIn := dtr, ctsIn := cts }

/-- Writes the connection: attached with this state, or none (R63, R314). -/
def State.setConn (c : Option Connection) (s : State) : State := { s with conn := c }

/-- Writes CTRL (R32). -/
def State.setCtrl (v : Half) (s : State) : State := { s with ctrl := v }

/-- Writes the FIFO (R51). -/
def State.setFifo (f : List Byte) (s : State) : State := { s with fifo := f }

/-- `TXFULL <- 0` (R53); TXBYTE is kept (D38). -/
def State.clearSlot (s : State) : State := { s with txFull := false }

/-- Clears the four latches: what ACK does (40_register_port.md R151). -/
def State.clearLatches (s : State) : State :=
  { s with rxParity := false, rxFifoOverrun := false, rxBadStopBit := false, intr := false }

/-- Writes the rest of the script (log 2). -/
def State.setScript (bytes : List Byte) (s : State) : State := { s with script := bytes }

/-! ## Interrupt (60_exceptions.md R343) -/

/-- `RaiseInterrupt()`: latches INTR and calls the sink once, also when INTR is already 1. -/
def State.raiseInterrupt (s : State) : State :=
  { s with intr := true, events := s.events ++ [.requestInterrupt s.config.irqChannel] }

/-- `RaiseInterrupt()` if this enable is set. -/
def State.raiseIf (enabled : Bool) (s : State) : State := if enabled then s.raiseInterrupt else s

/-! ## FIFO pushes (10_state.md R52): two policies, kept distinct (R275) -/

/-- `FIFO_CAP` (00_scope.md R8). -/
def fifoCap : Nat := 8

/-- `PushEvictOldest(b)`, the unframed protocol's push. -/
def State.pushEvictOldest (b : Byte) (s : State) : State :=
  if s.fifo.length = fifoCap then { s with fifo := s.fifo.tail ++ [b], rxFifoOverrun := true }
  else { s with fifo := s.fifo ++ [b] }

/-- `PushDropNew(b)`, the framed protocol's push. -/
def State.pushDropNew (b : Byte) (s : State) : State :=
  if s.fifo.length < fifoCap then { s with fifo := s.fifo ++ [b] } else { s with rxFifoOverrun := true }

/-! ## Connection (44_host_events.md R303, R315 to R317) -/

/-- `CONN_ATTACHED` (R63). -/
def State.connAttached (s : State) : Bool := s.conn.isSome

/-- The connection ATTACH creates (R303). -/
def newConnection : Connection := ⟨false, [], []⟩

/-- `CONN_ATTACHED = 1` and `Conn.IsConnected()` (R315): step 1 of both protocols goes on exactly then. -/
def State.linkEstablished (s : State) : Bool :=
  match s.conn with
  | some c => c.up
  | none => false

/-- `Conn.Available()` (R315). -/
def State.available (s : State) : Nat :=
  match s.conn with
  | some c => c.inbound.length
  | none => 0

/-- `Conn.HasData()` (R315). -/
def State.hasData (s : State) : Bool := decide (0 < s.available)

/-- The bytes `Conn.Read(maxLen, minLen)` returns (R316); their number is the count it returns. -/
def State.connReadBytes (maxLen minLen : Nat) (s : State) : List Byte :=
  match s.conn with
  | some c => if c.inbound.length < minLen then [] else c.inbound.take (min maxLen c.inbound.length)
  | none => []

/-- The state after `Conn.Read(maxLen, minLen)` (R316). -/
def State.connRead (maxLen minLen : Nat) (s : State) : State :=
  match s.conn with
  | some c =>
    if c.inbound.length < minLen then s
    else s.setConn (some { c with inbound := c.inbound.drop (min maxLen c.inbound.length) })
  | none => s

/-- The count a `Conn.Write` of `len` bytes accepts now: a draw `0 ≤ k ≤ len` (R317), the environment's next one or,
where it gives none, a free value (log 6). -/
def State.acceptCount (len : Nat) (s : State) : Nat :=
  match s.acceptDraws with
  | k :: _ => min k len
  | [] => min (Config.freeAccept s.drawCount) len

/-- Moves past the draw just taken (log 6). -/
def State.spendDraw (s : State) : State :=
  match s.acceptDraws with
  | _ :: ks => { s with acceptDraws := ks }
  | [] => { s with drawCount := s.drawCount + 1 }

/-- `Conn.Write(bytes)` (R317): the first k bytes reach the outbound stream, and the call and its k are recorded. -/
def State.connWrite (bytes : List Byte) (s : State) : State :=
  match s.conn with
  | some c =>
    ((s.spendDraw.setConn (some { c with outbound := c.outbound ++ bytes.take (s.acceptCount bytes.length) })).emit
      (.connWrite bytes (s.acceptCount bytes.length)))
  | none => s

/-! ## Scheduler collaborator (41_scheduler.md R202, R203) -/

/-- `Deactivate()` (R202): period and elapsed ticks are kept. -/
def State.deactivate (s : State) : State := { s with evActive := false }

/-- `SetPeriodAndSchedule(p)` (R202). -/
def State.setPeriodAndSchedule (p : Nat) (s : State) : State :=
  { s with evPeriod := p, evElapsed := 0, evActive := true }

/-- The period a reschedule computes: `TicksBetweenTransfers()`, or MAX_SLICE_TICKS where that is 0 (R203). -/
def State.schedulePeriod (s : State) : Nat :=
  if ticksBetweenTransfers s.mode s.baud = 0 then s.config.maxSliceTicks else ticksBetweenTransfers s.mode s.baud

/-- `RescheduleIfNeeded()` (R203). -/
def State.rescheduleIfNeeded (s : State) : State :=
  if s.connAttached then
    if s.evActive = false ∨ s.schedulePeriod ≠ s.evPeriod then
      s.deactivate.setPeriodAndSchedule s.schedulePeriod
    else s
  else s.deactivate

/-! ## Reset (70_reset_and_hazards.md R380; 10_state.md R70) -/

/-- `BAUD_DEFAULT` (00_scope.md R8). -/
def baudDefault : Half := 0x00DC#16

/-- The registers, FIFO and slot as a soft reset writes them; mirrors, TXBYTE and the connection are kept (R380, R383). -/
def State.resetRegisters (s : State) : State :=
  { s with
    ctrl := 0x0000#16
    rxParity := false
    rxFifoOverrun := false
    rxBadStopBit := false
    intr := false
    mode := 0x0000#16
    baud := baudDefault
    fifo := []
    txFull := false }

/-- `SoftReset()` (R380). -/
def State.softReset (s : State) : State := s.resetRegisters.rescheduleIfNeeded

/-- "state <- power-on values" of CONSTRUCT (R301; R70, first column). What belongs to the environment or to the
record of the run is kept: configuration, outputs, script, draws (log 11). -/
def State.powerOn (s : State) : State :=
  { s with
    life := .unbuilt
    ctrl := 0x0000#16
    rxParity := false
    rxFifoOverrun := false
    rxBadStopBit := false
    intr := false
    dtrIn := false
    ctsIn := false
    mode := 0x0000#16
    baud := 0x0000#16
    fifo := []
    txFull := false
    txByte := 0x00#8
    evActive := false
    evPeriod := 0
    evElapsed := 0
    conn := none }

/-! ## Guards of an operation (44_host_events.md R300) -/

/-- The operation whose effect is `t` requires `LIFE = LIVE` and is refused otherwise (R300). -/
def whenLive (s t : State) : Host.Outcome State Fault Refusal :=
  if s.life = .live then .next t else .refused (.lifecycle s.life)

/-- The operation requires `LIFE = LIVE` and an attached connection, whose state it is given (R300, R304, R310 to R313). -/
def whenAttached (s : State) (effect : Connection → State) : Host.Outcome State Fault Refusal :=
  if s.life = .live then
    match s.conn with
    | some c => .next (effect c)
    | none => .refused .notAttached
  else .refused (.lifecycle s.life)

/-! ## The next operation of the script (log 2) -/

/-- The next operation and the state past its bytes (R122, R398). -/
def State.fetch (s : State) : Except DecodeError (Instr × State) :=
  match decode s.script with
  | .ok (i, rest) => .ok (i, s.setScript rest)
  | .error e => .error e

/-- Puts a word of the opcode table at the head of the script: the bytes of the operation it holds, no byte more. -/
def State.placeTableWord (nbits w : Nat) (s : State) : State :=
  match decode (tableBytes nbits w) with
  | .ok (_, rest) => s.setScript ((tableBytes nbits w).take ((tableBytes nbits w).length - rest.length) ++ s.script)
  | .error _ => s.setScript (tableBytes nbits w ++ s.script)

end Sys2Proof.Machine
end

