-- ==== Sys2Proof/Machine/Transfer.lean ====
section
/-! DEFINITION. The transfer engine: the unframed step (42_transfer_unframed.md), the framed step
(43_transfer_framed.md), TransferStep (41_scheduler.md R208), and the transfers that are due: performing one and
InvokeEarly (R204, R207). -/

namespace Sys2Proof.Machine

/-- `n` times `f`, for the spec's loops whose number of turns is known when they start. -/
def iterate (f : State → State) : Nat → State → State
  | 0, s => s
  | n + 1, s => iterate f n (f s)

/-! ## Unframed step (R240) -/

/-- Step 3 (R243): one non-blocking single-byte read if RXEN; on success push, evicting the oldest byte, and raise the
interrupt if RXINTEN. -/
def State.unframedReceive (s : State) : State :=
  if s.rxEn then
    match s.connReadBytes 1 1 with
    | b :: _ => ((s.connRead 1 1).pushEvictOldest b).raiseIf s.rxIntEn
    | [] => s.connRead 1 1
  else s

/-- Step 4 (R244): if TXEN and the slot is full, write the byte, clear the slot whatever was accepted, and raise the
interrupt if TXINTEN. -/
def State.unframedTransmit (s : State) : State :=
  if s.txEn && s.txFull then ((s.connWrite [s.txByte]).clearSlot).raiseIf s.txIntEn else s

/-- `UnframedStep()` (R240); step 5 has no effect of its own (R245). -/
def State.unframedStep (s : State) : State :=
  if s.linkEstablished then (s.setMirrors true true).unframedReceive.unframedTransmit
  else s.setMirrors false false

/-! ## Framed step (R271) -/

/-- `HAS_DATA`, bit 0 of a flag byte (R119, R270). -/
def flagHasData (flags : Byte) : Bool := flags.getLsbD 0

/-- `DTR`, bit 1 of a flag byte (R119, R270). -/
def flagDtr (flags : Byte) : Bool := flags.getLsbD 1

/-- `CTS`, bit 2 of a flag byte (R119, R270). -/
def flagCts (flags : Byte) : Bool := flags.getLsbD 2

/-- What one drained frame does (R272, R273): a data frame is pushed, or dropped where the FIFO is full, and raises the
interrupt if RXINTEN in both cases; the mirrors follow the flags whether or not there is data. -/
def State.takeFrame (flags data : Byte) (s : State) : State :=
  (if flagHasData flags then (s.pushDropNew data).raiseIf s.rxIntEn else s).setMirrors (flagDtr flags) (flagCts flags)

/-- One turn of the drain loop (R271 step 2): `Conn.Read(2, 2)` and the frame it gives. -/
def State.drainFrame (s : State) : State :=
  match s.connReadBytes 2 2 with
  | flags :: data :: _ => (s.connRead 2 2).takeFrame flags data
  | _ => s

/-- Step 2 (R271): while `Conn.Available() ≥ 2`. Each turn takes two bytes and none arrives meanwhile (R272), so the
number of turns is half the bytes available at its start. -/
def State.drainFrames (s : State) : State := iterate State.drainFrame (s.available / 2) s

/-- Byte 0 of the outgoing frame (R274): CTS unless the FIFO is full, DTR if requested, HAS_DATA if the slot is full;
bits 7:3 are 0. -/
def State.outFlags (s : State) : Byte :=
  (if s.fifo.length < fifoCap then 0x04#8 else 0x00#8) ||| (if s.dtrOut then 0x02#8 else 0x00#8)
    ||| (if s.txFull then 0x01#8 else 0x00#8)

/-- Byte 1 of the outgoing frame (R274): the pending byte, or 0x00 without one. -/
def State.outData (s : State) : Byte := if s.txFull then s.txByte else 0x00#8

/-- Step 3 (R274): exactly one outgoing frame; a full slot is cleared and raises the interrupt if TXINTEN, before the
frame is written. -/
def State.framedTransmit (s : State) : State :=
  (s.clearSlot.raiseIf (s.txFull && s.txIntEn)).connWrite [s.outFlags, s.outData]

/-- `FramedStep()` (R271). RXEN and TXEN are not read (D19). -/
def State.framedStep (s : State) : State :=
  if s.linkEstablished then s.drainFrames.framedTransmit else s.setMirrors false false

/-! ## One transfer step and the due ones -/

/-- `TransferStep()` (41_scheduler.md R208). -/
def State.transferStep (s : State) : State :=
  match s.config.protocol with
  | .unframed => s.unframedStep
  | .framed => s.framedStep

/-- A transfer is due (R204). -/
def State.transferDue (s : State) : Bool := s.evActive && decide (s.evPeriod ≤ s.evElapsed)

/-- The number of due transfers (R204). A period of 0 while active, which no run reaches (R60), counts none (log 10). -/
def State.dueCount (s : State) : Nat := if s.evActive then s.evElapsed / s.evPeriod else 0

/-- One due transfer is performed: the phase of the schedule is kept (R206). -/
def State.performDue (s : State) : State := { s with evElapsed := s.evElapsed - s.evPeriod }.transferStep

/-- `InvokeEarly()` (R207): every due transfer, "exactly `EV_ELAPSED div EV_PERIOD` times". -/
def State.invokeEarly (s : State) : State := iterate State.performDue s.dueCount s

end Sys2Proof.Machine
end

