-- ==== Sys2Proof/Machine/HostEvents.lean ====
section
/-! DEFINITION. The host events and the connection's events of 44_host_events.md, R300 to R313. -/

namespace Sys2Proof.Machine

/-- The effect of CONSTRUCT (R301): power-on values, LIVE, soft reset. -/
def State.construct (s : State) : State := { s.powerOn with life := .live }.softReset

/-- CONSTRUCT (R301): requires LIFE = UNBUILT (R300). -/
def execConstruct (s : State) : Host.Outcome State Fault Refusal :=
  if s.life = .unbuilt then .next s.construct else .refused (.lifecycle s.life)

/-- SHUTDOWN (R302). -/
def execShutdown (s : State) : Host.Outcome State Fault Refusal :=
  whenLive s { s.deactivate.setConn none with life := .dead }

/-- ATTACH (R303): requires that no connection is attached. -/
def execAttach (s : State) : Host.Outcome State Fault Refusal :=
  if s.life = .live ∧ s.connAttached = true then .refused .alreadyAttached
  else whenLive s (s.setConn (some newConnection)).rescheduleIfNeeded

/-- DETACH (R304): the connection's state is discarded and the reschedule deactivates the event. -/
def execDetach (s : State) : Host.Outcome State Fault Refusal :=
  whenAttached s (fun _ => (s.setConn none).rescheduleIfNeeded)

/-- SAVE (R306): no early invocation. -/
def execSave (s : State) : Host.Outcome State Fault Refusal := whenLive s (s.emit (.saveImage s.image))

/-- The registers, FIFO and slot as a LOAD of `m` writes them (R305). -/
def State.loadRegisters (m : Image) (s : State) : State :=
  { s with
    ctrl := storedCtrl m.ctrl
    rxParity := m.stat.getLsbD 3
    rxFifoOverrun := m.stat.getLsbD 4
    rxBadStopBit := m.stat.getLsbD 5
    dtrIn := m.stat.getLsbD 7
    ctsIn := m.stat.getLsbD 8
    intr := m.stat.getLsbD 9
    mode := m.mode
    baud := m.baud
    fifo := []
    txFull := false }

/-- LOAD (R305): no sink call is made. -/
def execLoad (image : Image) (s : State) : Host.Outcome State Fault Refusal :=
  whenLive s (s.loadRegisters image).rescheduleIfNeeded

/-- LINK_UP (R310). -/
def execLinkUp (s : State) : Host.Outcome State Fault Refusal :=
  whenAttached s (fun c => s.setConn (some { c with up := true }))

/-- LINK_DOWN (R311): the buffers are kept. -/
def execLinkDown (s : State) : Host.Outcome State Fault Refusal :=
  whenAttached s (fun c => s.setConn (some { c with up := false }))

/-- PEER_SEND (R312). -/
def execPeerSend (first : Byte) (rest : List Byte) (s : State) : Host.Outcome State Fault Refusal :=
  whenAttached s (fun c => s.setConn (some { c with inbound := c.inbound ++ first :: rest }))

/-- PEER_RECV (R313): the bytes go to the peer (log 8). -/
def execPeerRecv (s : State) : Host.Outcome State Fault Refusal :=
  whenAttached s
    (fun c => { s with conn := some { c with outbound := [] }, peerResults := s.peerResults ++ [c.outbound] })

end Sys2Proof.Machine
end

