-- ==== Sys2Proof/Machine/RegisterPort.lean ====
section
/-! DEFINITION. The register accesses of 40_register_port.md, R140 to R155. Each requires LIFE = LIVE (R140); a read
records the value it returns (10_state.md R66). -/

namespace Sys2Proof.Machine

/-! ## Reads -/

/-- The value RD_DATA returns, from the state after its early invocation (R141). -/
def State.dataReadValue (s : State) : Word :=
  if s.fifo.length = 0 then allOnes32 else rxPack (s.fifo.take (min s.fifo.length 4))

/-- The FIFO RD_DATA leaves, from the state after its early invocation (R141, R143). -/
def State.dataReadFifo (s : State) : List Byte :=
  if s.fifo.length = 0 then s.fifo else fifoAfterRead s.config.rxReadPolicy (min s.fifo.length 4) s.fifo

/-- The part of RD_DATA after its early invocation. -/
def State.readData (s : State) : State := (s.setFifo s.dataReadFifo).emit (.readResult s.dataReadValue)

/-- RD_DATA (R141). -/
def execRdData (s : State) : Host.Outcome State Fault Refusal := whenLive s s.invokeEarly.readData

/-- RD_STAT (R145). -/
def execRdStat (s : State) : Host.Outcome State Fault Refusal :=
  whenLive s (s.invokeEarly.emit (.readResult s.invokeEarly.status))

/-- RD_MODE (R147). -/
def execRdMode (s : State) : Host.Outcome State Fault Refusal := whenLive s (s.emit (.readResult (zext32 s.mode)))

/-- RD_CTRL (R150). -/
def execRdCtrl (s : State) : Host.Outcome State Fault Refusal := whenLive s (s.emit (.readResult (zext32 s.ctrl)))

/-- RD_BAUD (R152). -/
def execRdBaud (s : State) : Host.Outcome State Fault Refusal := whenLive s (s.emit (.readResult (zext32 s.baud)))

/-- RD_UNK (R154). -/
def execRdUnk (_offset : BitVec 4) (s : State) : Host.Outcome State Fault Refusal :=
  whenLive s (s.emit (.readResult allOnes32))

/-! ## Writes -/

/-- The part of WR_DATA after its early invocation (R144). -/
def State.fillSlot (b : Byte) (s : State) : State := { s with txByte := b, txFull := true }

/-- WR_DATA (R144). -/
def execWrData (value : Word) (s : State) : Host.Outcome State Fault Refusal :=
  whenLive s (s.invokeEarly.fillSlot (lowByte value))

/-- WR_STAT (R146): no effect. -/
def execWrStat (_value : Word) (s : State) : Host.Outcome State Fault Refusal := whenLive s s

/-- WR_MODE (R148); it does not reschedule (R149). -/
def execWrMode (value : Word) (s : State) : Host.Outcome State Fault Refusal :=
  whenLive s { s with mode := lowHalf value }

/-- Whether a Control write clears an enable (R151): under EDGE a change from 1 to 0, under LEVEL a written 0. -/
def enableCleared (sense : ClearSense) (old new : Bool) : Bool :=
  match sense with
  | .edge => old && !new
  | .level => !new

/-- The effects of a Control write of `v`, in the spec's order (R151): store, RESET, ACK, receive clear, transmit
clear. The old value is the CTRL of the state before the write. -/
def State.writeCtrl (v : Half) (s : State) : State :=
  let stored := s.setCtrl (storedCtrl v)
  let afterReset := if v.getLsbD 6 then stored.softReset else stored
  let afterAck := if v.getLsbD 4 then afterReset.clearLatches else afterReset
  let afterRx := if enableCleared s.config.enableClearSense s.rxEn (v.getLsbD 2) then afterAck.setFifo [] else afterAck
  if enableCleared s.config.enableClearSense s.txEn (v.getLsbD 0) then afterRx.clearSlot else afterRx

/-- WR_CTRL (R151). -/
def execWrCtrl (value : Word) (s : State) : Host.Outcome State Fault Refusal :=
  whenLive s (s.writeCtrl (lowHalf value))

/-- WR_BAUD (R153); it does not reschedule (R149). -/
def execWrBaud (value : Word) (s : State) : Host.Outcome State Fault Refusal :=
  whenLive s { s with baud := lowHalf value }

/-- WR_UNK (R155): no effect. -/
def execWrUnk (_offset : BitVec 4) (_value : Word) (s : State) : Host.Outcome State Fault Refusal := whenLive s s

end Sys2Proof.Machine
end

