-- ==== Sys2Proof/Machine/Scheduler.lean ====
section
/-! DEFINITION. The internal events of 41_scheduler.md: TICK (R205) and FIRE (R206). -/

namespace Sys2Proof.Machine

/-- One tick of host time (R205): ticks while inactive are not counted. -/
def State.countTick (s : State) : State := if s.evActive then { s with evElapsed := s.evElapsed + 1 } else s

/-- TICK (R205). -/
def execTick (s : State) : Host.Outcome State Fault Refusal := whenLive s s.countTick

/-- FIRE (R206). Where nothing is due it "has no step": the block's state does not change, and the run goes on with
the next operation, as in the script of 95_test_vectors.md L1.9 (log 7). -/
def execFire (s : State) : Host.Outcome State Fault Refusal :=
  whenLive s (if s.transferDue then s.performDue else s)

end Sys2Proof.Machine
end

