-- ==== Sys2Proof/Machine/Dispatch.lean ====
section
/-! DEFINITION. One arm per operation of spec/opcode_table.json. -/

namespace Sys2Proof.Machine

def exec (i : Instr) (s : State) : Host.Outcome State Fault Refusal :=
  match i with
  | .rdData => Sys2Proof.Machine.execRdData s
  | .rdStat => Sys2Proof.Machine.execRdStat s
  | .rdMode => Sys2Proof.Machine.execRdMode s
  | .rdCtrl => Sys2Proof.Machine.execRdCtrl s
  | .rdBaud => Sys2Proof.Machine.execRdBaud s
  | .rdUnk offset => Sys2Proof.Machine.execRdUnk offset s
  | .wrData value => Sys2Proof.Machine.execWrData value s
  | .wrStat value => Sys2Proof.Machine.execWrStat value s
  | .wrMode value => Sys2Proof.Machine.execWrMode value s
  | .wrCtrl value => Sys2Proof.Machine.execWrCtrl value s
  | .wrBaud value => Sys2Proof.Machine.execWrBaud value s
  | .wrUnk offset value => Sys2Proof.Machine.execWrUnk offset value s
  | .tick => Sys2Proof.Machine.execTick s
  | .fire => Sys2Proof.Machine.execFire s
  | .construct => Sys2Proof.Machine.execConstruct s
  | .shutdown => Sys2Proof.Machine.execShutdown s
  | .attach => Sys2Proof.Machine.execAttach s
  | .detach => Sys2Proof.Machine.execDetach s
  | .save => Sys2Proof.Machine.execSave s
  | .load image => Sys2Proof.Machine.execLoad image s
  | .linkUp => Sys2Proof.Machine.execLinkUp s
  | .linkDown => Sys2Proof.Machine.execLinkDown s
  | .peerSend first rest => Sys2Proof.Machine.execPeerSend first rest s
  | .peerRecv => Sys2Proof.Machine.execPeerRecv s

end Sys2Proof.Machine
end

