-- ==== Sys2Proof/Machine/Step.lean ====
section
/-! DEFINITION. One step of the machine: the next operation of the script is taken and performed (20_memory.md R87,
R88; log 2). -/

namespace Sys2Proof.Machine

/-- One step: an operation in the total order of all agents' steps (R88). Bytes that are no operation are refused by
name (30_encoding.md R116). -/
def step (s : State) : Host.Outcome State Fault Refusal :=
  match s.fetch with
  | .ok (i, s') => exec i s'
  | .error e => .refused (.undecodable e)

/-- `s` with one word of the opcode table placed as its next operation. -/
def State.withFetchWord (s : State) (nbits w : Nat) : State := s.placeTableWord nbits w

end Sys2Proof.Machine
end

