-- ==== Sys2Proof/Safety.lean ====
section
/-! DEFINITION. The invariant of the machine, in which claims over all states are stated, and the few
notions claims need beside the machine: kinds of outputs and the frames of an inbound stream. -/

namespace Sys2Proof.Machine

/-- What every state of every run meets: from power-on on, and kept by every step. -/
structure State.Inv (s : State) : Prop where
  /-- `0 ≤ |FIFO| ≤ 8` (10_state.md R51). -/
  fifo_le : s.fifo.length ≤ fifoCap
  /-- `EV_PERIOD ≥ 1` whenever `EV_ACTIVE = 1` (R60, 41_scheduler.md R203). -/
  period_pos : s.evActive = true → 1 ≤ s.evPeriod
  /-- RESET and ACK always read 0 (R32). -/
  strobes_zero : s.ctrl &&& 0x0050#16 = 0x0000#16
  /-- The event is active exactly while a connection is attached (R203 and its callers). -/
  active_iff_attached : s.evActive = s.connAttached
  /-- A connection is attached only while LIVE (R302, "no entity outlives the controller instance", R65). -/
  attached_live : s.connAttached = true → s.life = .live
  /-- `MAX_SLICE_TICKS ≥ 1` (00_scope.md R9). -/
  slice_pos : 1 ≤ s.config.maxSliceTicks

/-- The requirement an operation has on the state, beside which it is refused: its lifecycle (44_host_events.md R300)
and, where it has one, the attachment of a connection (R303, R304, R310 to R313). -/
def State.Admits (s : State) : Instr → Prop
  | .construct => s.life = .unbuilt
  | .attach => s.life = .live ∧ s.conn = none
  | .detach | .linkUp | .linkDown | .peerSend _ _ | .peerRecv => s.life = .live ∧ s.conn.isSome = true
  | .rdData | .rdStat | .rdMode | .rdCtrl | .rdBaud | .rdUnk _ => s.life = .live
  | .wrData _ | .wrStat _ | .wrMode _ | .wrCtrl _ | .wrBaud _ | .wrUnk _ _ => s.life = .live
  | .tick | .fire | .shutdown | .save | .load _ => s.life = .live

/-- The output is a call of the interrupt sink (R343). -/
def Event.isSinkCall : Event → Bool
  | .requestInterrupt _ => true
  | .readResult _ | .connWrite _ _ | .saveImage _ => false

/-- The output is a call of `Conn.Write` (44_host_events.md R317). -/
def Event.isConnWrite : Event → Bool
  | .connWrite _ _ => true
  | .readResult _ | .requestInterrupt _ | .saveImage _ => false

/-- The complete 2-byte frames at the head of an inbound stream, flag byte first (43_transfer_framed.md R270); one odd
trailing byte is left out. -/
def inboundFrames : List Byte → List (Byte × Byte)
  | flags :: data :: rest => (flags, data) :: inboundFrames rest
  | _ => []

/-- The data bytes of the frames that carry data (R270, R272). -/
def frameData (frames : List (Byte × Byte)) : List Byte :=
  (frames.filter (fun f => f.1.getLsbD 0)).map Prod.snd

end Sys2Proof.Machine
end

