-- ==== Sys2Proof/Certificates/Slice0/Obligations.lean ====
section
/-! DEFINITION. The statements for the provers, made from the spec's numbered rules. Where a statement rests on a
decision the spec marks as its own, its docstring names the decision (92_eei_decisions.md) or the log entry. -/

open Sys2Proof Sys2Proof.Machine

/-! ## Encoding (30_encoding.md; the operand bytes are the model's notation, log 1) -/

/-- Decoding the bytes of a well-formed operation gives that operation, with every operand, and what follows it. The
descriptor is the spec's own notation (D29), the operand bytes the model's (log 1). -/
def Obligations.DecodeReturnsTheEncodedOperation : Prop :=
  ∀ (i : Instr) (rest : List Byte), i.WellFormed → decode (encode i ++ rest) = .ok (i, rest)

/-- Whatever decodes is the encoding of a well-formed operation: no two byte strings name one operation (D29, log 1). -/
def Obligations.DecodedBytesAreAnEncoding : Prop :=
  ∀ (bytes : List Byte) (i : Instr) (rest : List Byte),
    decode bytes = .ok (i, rest) → i.WellFormed ∧ bytes = encode i ++ rest

/-- An access at an offset of no register decodes to RD_UNK or WR_UNK and is never refused; a class-0b10 descriptor from
0x22 on and a class-0b11 descriptor from 0x3A on is refused by name (30_encoding.md, "Decoding is total on the 64
descriptors"; D29). -/
def Obligations.UnknownOffsetsDecodeAndReservedDescriptorsAreRefused : Prop :=
  (∀ (offset : BitVec 4) (rest : List Byte), registerOffset offset = false →
    decode ((0b0000#4 ++ offset) :: rest) = .ok (.rdUnk offset, rest)) ∧
  (∀ (offset : BitVec 4) (value : Word) (rest : List Byte), registerOffset offset = false →
    decode ((0b0001#4 ++ offset) :: (wordBytes value ++ rest)) = .ok (.wrUnk offset value, rest)) ∧
  (∀ (selector : BitVec 4) (rest : List Byte), 0x2 ≤ selector.toNat →
    decode ((0b0010#4 ++ selector) :: rest) = .error (.reserved (0b10#2 ++ selector))) ∧
  (∀ (selector : BitVec 4) (rest : List Byte), 0xA ≤ selector.toNat →
    decode ((0b0011#4 ++ selector) :: rest) = .error (.reserved (0b11#2 ++ selector)))

/-- A few descriptors of the spec's table, written out, decode to the operations they stand for (D29; operands, log 1). -/
def Obligations.SpecDescriptorsDecodeToTheirOperations : Prop :=
  decode [0x00#8] = .ok (.rdData, []) ∧
  decode [0x0E#8] = .ok (.rdBaud, []) ∧
  decode [0x0C#8] = .ok (.rdUnk 0xC#4, []) ∧
  decode [0x1A#8, 0x05#8, 0x08#8, 0x00#8, 0x00#8] = .ok (.wrCtrl 0x00000805#32, []) ∧
  decode [0x21#8] = .ok (.fire, []) ∧
  decode [0x30#8] = .ok (.construct, []) ∧
  decode [0x38#8, 0x01#8, 0x03#8, 0x00#8, 0x7F#8] = .ok (.peerSend 0x03#8 [0x7F#8], [])

/-- A step performs the operation its script's bytes decode to, with the script moved past them, and refuses by name
where they decode to none (log 2). -/
def Obligations.StepPerformsTheDecodedOperation : Prop :=
  ∀ (s : State),
    (∀ (i : Instr) (rest : List Byte), decode s.script = .ok (i, rest) → step s = exec i { s with script := rest }) ∧
    (∀ (e : DecodeError), decode s.script = .error e → step s = .refused (.undecodable e))

/-- A table word that decodes is performed by the very next step after it is placed, and the script that stood there
before is what remains (log 2). -/
def Obligations.StepAfterPlacingATableWordPerformsIt : Prop :=
  ∀ (s : State) (nbits w : Nat) (i : Instr),
    decodeTableWord nbits w = some i → step (s.withFetchWord nbits w) = exec i s

/-! ## Requirements of an operation (44_host_events.md section 1, 60_exceptions.md section 1) -/

/-- Every operation but CONSTRUCT is refused unless LIVE, and CONSTRUCT unless UNBUILT (D31). -/
def Obligations.OperationsOutsideTheirLifecycleAreRefused : Prop :=
  ∀ (i : Instr) (s : State),
    (i ≠ .construct → s.life ≠ .live → exec i s = .refused (.lifecycle s.life)) ∧
    (s.life ≠ .unbuilt → exec .construct s = .refused (.lifecycle s.life))

/-- ATTACH while attached, and DETACH and the connection's events while nothing is attached, are refused (D31, D18). -/
def Obligations.AttachmentRequirementsAreRefusedByName : Prop :=
  ∀ (s : State), s.life = .live →
    (s.conn.isSome = true → exec .attach s = .refused .alreadyAttached) ∧
    (s.conn = none →
      exec .detach s = .refused .notAttached ∧ exec .linkUp s = .refused .notAttached ∧
      exec .linkDown s = .refused .notAttached ∧
      (∀ b bs, exec (.peerSend b bs) s = .refused .notAttached) ∧ exec .peerRecv s = .refused .notAttached)

/-- There is no exception (60_exceptions.md section 1): an operation completes wherever its requirement holds, so no
register access fails while LIVE, and its only other outcome is the refusal of that requirement (D31, D18). R340 also
lists the absence of a step, FIRE with nothing due, as an outcome of its own (D13); that such a FIRE completes here is
the model's reading (DEDUCED, log 7). -/
def Obligations.OperationsCompleteOrAreRefusedByTheirRequirement : Prop :=
  ∀ (i : Instr) (s : State),
    (∀ r, exec i s ≠ .fault r) ∧
    (s.Admits i → ∃ t, exec i s = .next t) ∧
    (¬ s.Admits i → ∃ r, exec i s = .refused r ∧
      (r = .lifecycle s.life ∨ r = .alreadyAttached ∨ r = .notAttached))

/-! ## Register port (40_register_port.md) -/

/-- R150, R152: RD_CTRL (0x0A) and RD_BAUD (0x0E) return the zero-extended register and do nothing else; bits 4 and 6 of
a Control read are 0. -/
def Obligations.ReadsOfControlAndBaudReturnTheRegister : Prop :=
  Instr.rdCtrl.descriptor = 0x0A#6 ∧ Instr.rdBaud.descriptor = 0x0E#6 ∧
  ∀ (s : State), s.life = .live →
    exec .rdCtrl s = .next { s with events := s.events ++ [.readResult (s.ctrl.setWidth 32)] } ∧
    exec .rdBaud s = .next { s with events := s.events ++ [.readResult (s.baud.setWidth 32)] } ∧
    (s.Inv → (s.ctrl.setWidth 32).getLsbD 4 = false ∧ (s.ctrl.setWidth 32).getLsbD 6 = false)

/-- RD_MODE and WR_MODE are plain accessors; a write keeps the low 16 bits and does not reschedule (D4, D17). -/
def Obligations.ModeIsAPlainAccessor : Prop :=
  ∀ (s : State) (value : Word), s.life = .live →
    exec .rdMode s = .next { s with events := s.events ++ [.readResult (s.mode.setWidth 32)] } ∧
    exec (.wrMode value) s = .next { s with mode := value.setWidth 16 }

/-- R153: WR_BAUD (0x1E) stores the low 16 bits, whatever they are, and changes nothing else: the tick is not
rescheduled. -/
def Obligations.BaudWriteStoresSixteenBitsOnly : Prop :=
  ∀ (s : State) (value : Word), s.life = .live →
    (Instr.wrBaud value).descriptor = 0x1E#6 ∧
    exec (.wrBaud value) s = .next { s with baud := value.setWidth 16 }

/-- A read of an unknown offset returns all-ones, a write is ignored, and neither fails or touches state: R154 and R155
but for their logs, which are no output of the model (D26, log 12). -/
def Obligations.UnknownOffsetsReadAllOnesAndIgnoreWrites : Prop :=
  ∀ (s : State) (offset : BitVec 4) (value : Word), s.life = .live →
    exec (.rdUnk offset) s = .next { s with events := s.events ++ [.readResult 0xFFFFFFFF#32] } ∧
    exec (.wrUnk offset value) s = .next s

/-- A write to the read-only Status offset leaves every state unchanged (D6). -/
def Obligations.StatusWriteHasNoEffect : Prop :=
  ∀ (s : State) (value : Word), s.life = .live → exec (.wrStat value) s = .next s

/-- R145: RD_STAT (0x04) runs every due transfer, then returns the Status word of that state and acknowledges nothing. -/
def Obligations.StatusReadReturnsStatusAfterEarlyInvocation : Prop :=
  Instr.rdStat.descriptor = 0x04#6 ∧ ∀ (s : State), s.life = .live →
    exec .rdStat s =
      .next { s.invokeEarly with events := s.invokeEarly.events ++ [.readResult s.invokeEarly.status] }

/-- Every bit of the Status word: the derived bits are functions of the state, bits 6 and 31:10 read 0 (positions D2,
formulas D7 and D8). -/
def Obligations.StatusWordHasItsFieldsAtTheirPlaces : Prop :=
  ∀ (s : State) (n : Nat), s.status.getLsbD n =
    (if n = 0 then !s.txFull
    else if n = 1 then !s.fifo.isEmpty
    else if n = 2 then !s.txFull
    else if n = 3 then s.rxParity
    else if n = 4 then s.rxFifoOverrun
    else if n = 5 then s.rxBadStopBit
    else if n = 7 then s.dtrIn
    else if n = 8 then s.ctsIn
    else if n = 9 then s.intr
    else false)

/-- RD_DATA runs every due transfer, then returns the sentinel or the packed first bytes; the FIFO is kept under PEEK,
and the other two policies remove one byte or the packed ones (policies D10, packing D9). -/
def Obligations.DataReadPacksTheFirstBytes : Prop :=
  ∀ (s : State), s.life = .live →
    (s.invokeEarly.fifo = [] → exec .rdData s =
      .next { s.invokeEarly with events := s.invokeEarly.events ++ [.readResult 0xFFFFFFFF#32] }) ∧
    (s.invokeEarly.fifo ≠ [] → exec .rdData s =
      .next { s.invokeEarly with
        fifo :=
          match s.config.rxReadPolicy with
          | .peek => s.invokeEarly.fifo
          | .dequeueOne => s.invokeEarly.fifo.drop 1
          | .dequeuePacked => s.invokeEarly.fifo.drop 4
        events := s.invokeEarly.events ++ [.readResult (rxPack (s.invokeEarly.fifo.take 4))] })

/-- What the spec fixes of the packing of one to four bytes, and nothing more: bits 31:24 are 0 (P1), every set bit of
the first byte is set in bits 23:16 (P2), and one byte alone is exactly there (D9, log 5). -/
def Obligations.PackingMeetsItsConstraints : Prop :=
  ∀ (b0 : Byte) (more : List Byte), more.length ≤ 3 →
    (rxPack (b0 :: more)).extractLsb' 24 8 = 0x00#8 ∧
    (rxPack (b0 :: more)).extractLsb' 16 8 &&& b0 = b0 ∧
    rxPack [b0] = b0.setWidth 32 <<< 16

/-- WR_DATA runs every due transfer, then puts the low byte into the slot, over whatever is there, whatever TXEN is;
TXRDY and TXDONE become 0: R144 but for its log (D26, log 12). -/
def Obligations.DataWriteFillsTheSlot : Prop :=
  ∀ (s : State) (value : Word), s.life = .live →
    ∃ t, exec (.wrData value) s = .next t ∧
      t = { s.invokeEarly with txByte := value.setWidth 8, txFull := true } ∧ t.txRdy = false ∧ t.txDone = false

/-- WR_CTRL without RESET: all but bits 4 and 6 is stored; ACK clears the four latches and no mirror; the FIFO and the
slot are emptied where their enable is being cleared, by the sense of the configuration; nothing else changes, and no
transfer runs (positions D1, sense D11, order D12). -/
def Obligations.ControlWriteWithoutReset : Prop :=
  ∀ (s : State) (value : Word), s.life = .live → value.getLsbD 6 = false →
    exec (.wrCtrl value) s =
      .next { s with
        ctrl := value.setWidth 16 &&& 0xFFAF#16
        rxParity := s.rxParity && !value.getLsbD 4
        rxFifoOverrun := s.rxFifoOverrun && !value.getLsbD 4
        rxBadStopBit := s.rxBadStopBit && !value.getLsbD 4
        intr := s.intr && !value.getLsbD 4
        fifo :=
          if value.getLsbD 2 = false ∧ (s.config.enableClearSense = .level ∨ s.ctrl.getLsbD 2 = true) then []
          else s.fifo
        txFull :=
          if value.getLsbD 0 = false ∧ (s.config.enableClearSense = .level ∨ s.ctrl.getLsbD 0 = true) then false
          else s.txFull }

/-- WR_CTRL with RESET is a soft reset, whatever is written with it: CTRL ends as 0 and ACK and the enables add nothing
(positions D1, order D12). -/
def Obligations.ControlWriteWithResetIsASoftReset : Prop :=
  ∀ (s : State) (value : Word), s.life = .live → value.getLsbD 6 = true →
    exec (.wrCtrl value) s = .next s.softReset

/-! ## Soft reset (70_reset_and_hazards.md) -/

/-- R380: what a soft reset writes, that it reschedules with the values just set, and that the derived Status bits
follow; the mirrors and everything not named are untouched. -/
def Obligations.SoftResetWritesTheRegistersAndReschedules : Prop :=
  ∀ (s : State),
    s.softReset =
      State.rescheduleIfNeeded { s with
        ctrl := 0x0000#16, rxParity := false, rxFifoOverrun := false, rxBadStopBit := false, intr := false
        mode := 0x0000#16, baud := 0x00DC#16, fifo := [], txFull := false } ∧
    s.softReset.dtrIn = s.dtrIn ∧ s.softReset.ctsIn = s.ctsIn ∧
    s.softReset.txRdy = true ∧ s.softReset.txDone = true ∧ s.softReset.rxFifoNEmpty = false

/-- The schedule after a soft reset: with a connection the period is 220, the phase going on where it already was 220
and starting anew otherwise; without one the event is inactive (the spec's inference from R380, R201 and R203; D15, D17). -/
def Obligations.SoftResetSchedulesTheResetPeriod : Prop :=
  ∀ (s : State),
    (s.conn.isSome = true → s.softReset.evActive = true ∧ s.softReset.evPeriod = 220 ∧
      s.softReset.evElapsed = if s.evActive = true ∧ s.evPeriod = 220 then s.evElapsed else 0) ∧
    (s.conn = none → s.softReset.evActive = false ∧ s.softReset.evPeriod = s.evPeriod ∧
      s.softReset.evElapsed = s.evElapsed)

/-! ## Scheduler (41_scheduler.md) -/

/-- R201: the period is the exact product of BAUD and the multiplier, rounded down to an even number, at least the
multiplier; reload factor 3 gives 0 for every BAUD; 22 bits hold it. -/
def Obligations.TicksBetweenTransfersIsTheEvenProduct : Prop :=
  ∀ (mode baud : Half),
    (mode.toNat % 4 = 0 → ticksBetweenTransfers mode baud = max (baud.toNat - baud.toNat % 2) 1) ∧
    (mode.toNat % 4 = 1 → ticksBetweenTransfers mode baud = max (16 * baud.toNat) 16) ∧
    (mode.toNat % 4 = 2 → ticksBetweenTransfers mode baud = max (64 * baud.toNat) 64) ∧
    (mode.toNat % 4 = 3 → ticksBetweenTransfers mode baud = 0) ∧
    ticksBetweenTransfers mode baud < 2 ^ 22

/-- The source's testable property of the period (95_test_vectors.md L1.1): for BAUD ≥ 1 and reload factors 0 to 2 it is
even or equal to the multiplier, and at least the multiplier. -/
def Obligations.PeriodIsEvenOrTheMultiplier : Prop :=
  ∀ (mode baud : Half), 1 ≤ baud.toNat → mode.toNat % 4 ≠ 3 →
    (ticksBetweenTransfers mode baud % 2 = 0 ∨
      ticksBetweenTransfers mode baud = multiplier (reloadFactor mode)) ∧
    multiplier (reloadFactor mode) ≤ ticksBetweenTransfers mode baud

/-- RescheduleIfNeeded: without a connection the event is deactivated, period and elapsed ticks kept; with one the
event gets the computed period, or MAX_SLICE_TICKS for 0, and starts anew only where it was inactive or the period
differs (D15, D16). -/
def Obligations.RescheduleKeepsOrRestartsTheEvent : Prop :=
  ∀ (s : State) (period : Nat),
    period = (if ticksBetweenTransfers s.mode s.baud = 0 then s.config.maxSliceTicks
      else ticksBetweenTransfers s.mode s.baud) →
    s.rescheduleIfNeeded =
      if s.conn = none then { s with evActive := false }
      else if s.evActive = true ∧ s.evPeriod = period then s
      else { s with evActive := true, evPeriod := period, evElapsed := 0 }

/-- TICK counts one tick while the event is active and none while it is not, due or not (D13). -/
def Obligations.TickCountsWhileActive : Prop :=
  ∀ (s : State), s.life = .live →
    exec .tick s = .next { s with evElapsed := if s.evActive then s.evElapsed + 1 else s.evElapsed }

/-- FIRE performs exactly one transfer step where one is due, keeping the phase; where none is due it has no step and
the block's state does not change (D13; that the run goes on is the model's reading, log 7). -/
def Obligations.FirePerformsOneDueTransfer : Prop :=
  ∀ (s : State), s.life = .live →
    (s.evActive = true ∧ s.evPeriod ≤ s.evElapsed →
      exec .fire s = .next (State.transferStep { s with evElapsed := s.evElapsed - s.evPeriod })) ∧
    (¬ (s.evActive = true ∧ s.evPeriod ≤ s.evElapsed) → exec .fire s = .next s)

/-- InvokeEarly is the loop the spec writes: while a transfer is due, one is performed (D14). The premise rules out an
active event of period 0, which no run reaches. -/
def Obligations.EarlyInvocationIsTheDueLoop : Prop :=
  ∀ (s : State), s.Inv →
    s.invokeEarly =
      if s.evActive = true ∧ s.evPeriod ≤ s.evElapsed then
        (State.transferStep { s with evElapsed := s.evElapsed - s.evPeriod }).invokeEarly
      else s

/-- Each due tick gets one transfer: after an early invocation the elapsed ticks are what is left of the current period,
so nothing is due, and a second early invocation with no tick between does nothing (D14; 95_test_vectors.md L1.9). -/
def Obligations.EarlyInvocationIsIdempotent : Prop :=
  ∀ (s : State), s.Inv →
    s.invokeEarly.evElapsed = (if s.evActive then s.evElapsed % s.evPeriod else s.evElapsed) ∧
    s.invokeEarly.transferDue = false ∧
    s.invokeEarly.invokeEarly = s.invokeEarly

/-- R208: the transfer step is the configured protocol's step; it writes none of the schedule, CTRL, MODE and BAUD, and
it calls Conn.Write at most once, so nothing is retried within it. -/
def Obligations.TransferStepRunsOneProtocolStepAndKeepsRegisters : Prop :=
  ∀ (s : State),
    s.transferStep = (if s.config.protocol = .unframed then s.unframedStep else s.framedStep) ∧
    s.transferStep.evActive = s.evActive ∧ s.transferStep.evPeriod = s.evPeriod ∧
    s.transferStep.evElapsed = s.evElapsed ∧ s.transferStep.ctrl = s.ctrl ∧ s.transferStep.mode = s.mode ∧
    s.transferStep.baud = s.baud ∧
    ∃ es, s.transferStep.events = s.events ++ es ∧ es.countP Event.isConnWrite ≤ 1

/-! ## Protocol steps (42_transfer_unframed.md, 43_transfer_framed.md) -/

/-- With no connection, or none established, a step of either protocol clears both mirrors and does nothing else: FIFO,
slot and latches are kept and no interrupt is raised (unframed: R241; framed: step 1 of R271, and what 60_exceptions.md
section 1 says of a connection that is not established). -/
def Obligations.StepWithoutLinkOnlyClearsTheMirrors : Prop :=
  ∀ (s : State), (∀ c, s.conn = some c → c.up = false) →
    s.transferStep = { s with dtrIn := false, ctsIn := false }

/-- R242, R243 and R244 but for the log of a short write (D26, log 12): an unframed step with an established
connection sets both mirrors; if RXEN and a byte has come it takes it, evicting the oldest byte of a full FIFO; then,
if TXEN and the slot is full, it writes the byte and clears the slot whatever count `k` is accepted; each raises its
interrupt if enabled, receive first. -/
def Obligations.UnframedStepReceivesThenSends : Prop :=
  ∀ (s : State) (c : Connection), s.config.protocol = .unframed → s.conn = some c → c.up = true →
    ∃ k, k ≤ 1 ∧
    let receives := s.rxEn && !c.inbound.isEmpty
    let sends := s.txEn && s.txFull
    let call : List Event := [.requestInterrupt s.config.irqChannel]
    s.transferStep =
      { s with
        dtrIn := true
        ctsIn := true
        fifo :=
          if receives then (if s.fifo.length = 8 then s.fifo.drop 1 else s.fifo) ++ c.inbound.take 1 else s.fifo
        rxFifoOverrun := s.rxFifoOverrun || (receives && s.fifo.length == 8)
        txFull := s.txFull && !sends
        intr := s.intr || (receives && s.rxIntEn) || (sends && s.txIntEn)
        conn := some
          { up := true
            inbound := if receives then c.inbound.drop 1 else c.inbound
            outbound := if sends then c.outbound ++ [s.txByte].take k else c.outbound }
        events :=
          s.events ++ (if receives && s.rxIntEn then call else []) ++ (if sends then [.connWrite [s.txByte] k] else [])
            ++ (if sends && s.txIntEn then call else [])
        acceptDraws := if sends then s.acceptDraws.drop 1 else s.acceptDraws
        drawCount := if sends && s.acceptDraws.isEmpty then s.drawCount + 1 else s.drawCount }

/-- The two pushes of R52 and R275, which the model does not unify: the unframed push evicts exactly the oldest entry
of a full FIFO, the framed push drops the new byte without evicting; both set RXFIFOOVERRUN then and only then, and
the FIFO stays within its capacity. -/
def Obligations.OverrunPoliciesStayDistinct : Prop :=
  ∀ (s : State) (b : Byte),
    (s.fifo.length = 8 →
      s.pushEvictOldest b = { s with fifo := s.fifo.drop 1 ++ [b], rxFifoOverrun := true } ∧
      s.pushDropNew b = { s with rxFifoOverrun := true }) ∧
    (s.fifo.length < 8 →
      s.pushEvictOldest b = { s with fifo := s.fifo ++ [b] } ∧
      s.pushDropNew b = { s with fifo := s.fifo ++ [b] }) ∧
    (s.fifo.length ≤ 8 → (s.pushEvictOldest b).fifo.length ≤ 8 ∧ (s.pushDropNew b).fifo.length ≤ 8)

/-- Every complete inbound frame is drained in one step, by the loop the spec writes: `while Conn.Available() ≥ 2`
(43_transfer_framed.md step 2; the test is the spec's reading, D18). -/
def Obligations.FramedDrainIsTheAvailableLoop : Prop :=
  ∀ (s : State), s.drainFrames = (if 2 ≤ s.available then s.drainFrame.drainFrames else s) ∧ s.drainFrames.available < 2

/-- A framed step stores the data bytes of the frames that carry data, in order, as far as the FIFO has room, and drops
the others without evicting; it sets RXFIFOOVERRUN exactly when one is dropped, whatever RXEN is, and leaves only an odd
trailing byte in the connection (D19, D37; frame layout D21). -/
def Obligations.FramedStepStoresTheDataThatFits : Prop :=
  ∀ (s : State) (c : Connection), s.config.protocol = .framed → s.conn = some c → c.up = true → s.fifo.length ≤ 8 →
    let data := frameData (inboundFrames c.inbound)
    s.transferStep.fifo = (s.fifo ++ data).take 8 ∧
    s.transferStep.rxFifoOverrun = (s.rxFifoOverrun || decide (8 < s.fifo.length + data.length)) ∧
    ∃ d, s.transferStep.conn = some d ∧ d.up = true ∧ d.inbound = c.inbound.drop (c.inbound.length - c.inbound.length % 2)

/-- R273 but for its log (D26, log 12): after a drain the mirrors are the DTR and CTS bits of the last frame drained,
with or without data; with no frame drained they keep their values, an established connection alone setting neither.
-/
def Obligations.FramedMirrorsFollowTheLastFrame : Prop :=
  ∀ (s : State) (c : Connection), s.config.protocol = .framed → s.conn = some c → c.up = true →
    (∀ frame, (inboundFrames c.inbound).getLast? = some frame →
      s.transferStep.dtrIn = frame.1.getLsbD 1 ∧ s.transferStep.ctsIn = frame.1.getLsbD 2) ∧
    (inboundFrames c.inbound = [] → s.transferStep.dtrIn = s.dtrIn ∧ s.transferStep.ctsIn = s.ctsIn)

/-- R274 but for its log (D26, log 12): a framed step with an established connection sends exactly one frame: CTS
unless the FIFO is full after the drain, DTR if DTROUT, and the pending byte with the data flag if the slot is full,
which is cleared and raises the interrupt if TXINTEN; a short write is dropped. -/
def Obligations.FramedStepSendsExactlyOneFrame : Prop :=
  ∀ (s : State) (c : Connection), s.config.protocol = .framed → s.conn = some c → c.up = true →
    ∃ (flags : Byte) (k : Nat) (es : List Event) (d : Connection),
      (∀ n, flags.getLsbD n =
        (if n = 0 then s.txFull
        else if n = 1 then s.dtrOut
        else if n = 2 then decide (s.transferStep.fifo.length < 8)
        else false)) ∧
      k ≤ 2 ∧
      s.transferStep.events = s.events ++ es
        ++ (if s.txFull && s.txIntEn then [.requestInterrupt s.config.irqChannel] else [])
        ++ [.connWrite [flags, if s.txFull then s.txByte else 0x00#8] k] ∧
      es.countP Event.isConnWrite = 0 ∧
      s.transferStep.conn = some d ∧
      d.outbound = c.outbound ++ [flags, if s.txFull then s.txByte else 0x00#8].take k ∧
      s.transferStep.txFull = false ∧
      (s.txFull = true → s.txIntEn = true → s.transferStep.intr = true)

/-- A framed step with an established connection calls the interrupt sink once for each data frame, stored or dropped,
if RXINTEN, and once for the sent byte if TXINTEN, and makes no other output but the one write (D20). -/
def Obligations.FramedStepInterruptsOncePerDataFrame : Prop :=
  ∀ (s : State) (c : Connection), s.config.protocol = .framed → s.conn = some c → c.up = true →
    let received := if s.rxIntEn then (frameData (inboundFrames c.inbound)).length else 0
    let sent := if s.txFull && s.txIntEn then 1 else 0
    (∃ bytes k, s.transferStep.events =
      s.events ++ List.replicate (received + sent) (.requestInterrupt s.config.irqChannel) ++ [.connWrite bytes k]) ∧
    s.transferStep.intr = (s.intr || decide (0 < received + sent))

/-- The framed protocol does not read RXEN, TXEN or any Control bit but DTROUT, TXINTEN and RXINTEN: two states that
differ in the others only still differ in them only after a step (D19, D33). -/
def Obligations.FramedStepReadsOnlyThreeControlBits : Prop :=
  ∀ (s : State) (other : Half), s.config.protocol = .framed →
    other.getLsbD 1 = s.ctrl.getLsbD 1 → other.getLsbD 10 = s.ctrl.getLsbD 10 →
    other.getLsbD 11 = s.ctrl.getLsbD 11 →
    State.transferStep { s with ctrl := other } = { s.transferStep with ctrl := other }

/-! ## Interrupts (60_exceptions.md) -/

/-- RaiseInterrupt sets the latch and calls the sink once, also where the latch is already set, and does nothing else
(D22, D23). -/
def Obligations.RaiseInterruptLatchesAndCallsTheSink : Prop :=
  ∀ (s : State),
    s.raiseInterrupt =
      { s with intr := true, events := s.events ++ [.requestInterrupt s.config.irqChannel] }

/-- R345: INTR goes from 1 to 0 only by a Control write with ACK or RESET, a LOAD of an image with bit 9 clear, or the
construction's reset; it goes from 0 to 1 only by a LOAD or together with a call of the sink. -/
def Obligations.InterruptLatchPersistsUntilAcknowledged : Prop :=
  ∀ (i : Instr) (s t : State), exec i s = .next t →
    (s.intr = true → t.intr = false →
      (∃ v, i = .wrCtrl v ∧ (v.getLsbD 4 = true ∨ v.getLsbD 6 = true)) ∨
      (∃ m, i = .load m ∧ m.stat.getLsbD 9 = false) ∨ i = .construct) ∧
    (s.intr = false → t.intr = true →
      (∃ m, i = .load m ∧ m.stat.getLsbD 9 = true) ∨
      ∃ es e, t.events = s.events ++ es ∧ e ∈ es ∧ e.isSinkCall = true)

/-- Only an operation that performs transfers calls the interrupt sink: FIRE, RD_DATA, RD_STAT and WR_DATA. No other
register access, no tick and no host event does, LOAD of an image with INTR set among them (D20, D25). -/
def Obligations.OnlyTransfersCallTheSink : Prop :=
  ∀ (i : Instr) (s t : State), exec i s = .next t →
    i ≠ .fire → i ≠ .rdData → i ≠ .rdStat → (∀ v, i ≠ .wrData v) →
    ∃ es, t.events = s.events ++ es ∧ ∀ e ∈ es, e.isSinkCall = false ∧ e.isConnWrite = false

/-! ## Whole-machine rules -/

/-- EV_PERIOD changes only by a Control write with RESET, LOAD, ATTACH or CONSTRUCT: never by a write of MODE or BAUD,
a tick, a transfer or an early invocation (D17; 70_reset_and_hazards.md section 3). -/
def Obligations.PeriodChangesOnlyByReschedule : Prop :=
  ∀ (i : Instr) (s t : State), exec i s = .next t → t.evPeriod ≠ s.evPeriod →
    (∃ v, i = .wrCtrl v ∧ v.getLsbD 6 = true) ∨ (∃ m, i = .load m) ∨ i = .attach ∨ i = .construct

/-- Who writes CTRL, MODE and BAUD, and that RXPARITY and RXBADSTOPBIT are set by a LOAD alone (10_state.md sections 2
to 5; D1, D4). -/
def Obligations.RegistersChangeOnlyByTheirWriters : Prop :=
  ∀ (i : Instr) (s t : State), exec i s = .next t →
    (t.ctrl ≠ s.ctrl → (∃ v, i = .wrCtrl v) ∨ (∃ m, i = .load m) ∨ i = .construct) ∧
    (t.mode ≠ s.mode →
      (∃ v, i = .wrMode v) ∨ (∃ v, i = .wrCtrl v ∧ v.getLsbD 6 = true) ∨ (∃ m, i = .load m) ∨ i = .construct) ∧
    (t.baud ≠ s.baud →
      (∃ v, i = .wrBaud v) ∨ (∃ v, i = .wrCtrl v ∧ v.getLsbD 6 = true) ∨ (∃ m, i = .load m) ∨ i = .construct) ∧
    (s.rxParity = false → t.rxParity = true → ∃ m, i = .load m ∧ m.stat.getLsbD 3 = true) ∧
    (s.rxBadStopBit = false → t.rxBadStopBit = true → ∃ m, i = .load m ∧ m.stat.getLsbD 5 = true)

/-- The frame of the four operations that perform transfers: registers, schedule, attachment and configuration are
unchanged, TXBYTE changes by WR_DATA alone, and the latches INTR and RXFIFOOVERRUN are not cleared (20_memory.md section
3, the spec's inference from its operations). -/
def Obligations.OperationsThatTransferKeepTheRest : Prop :=
  ∀ (i : Instr) (s t : State), exec i s = .next t →
    (i = .rdData ∨ i = .rdStat ∨ i = .fire ∨ ∃ v, i = .wrData v) →
    t.life = s.life ∧ t.config = s.config ∧ t.ctrl = s.ctrl ∧ t.mode = s.mode ∧ t.baud = s.baud ∧
    t.rxParity = s.rxParity ∧ t.rxBadStopBit = s.rxBadStopBit ∧ t.evActive = s.evActive ∧ t.evPeriod = s.evPeriod ∧
    t.conn.isSome = s.conn.isSome ∧ t.peerResults = s.peerResults ∧ t.script = s.script ∧
    (t.txByte ≠ s.txByte → ∃ v, i = .wrData v) ∧
    (s.intr = true → t.intr = true) ∧ (s.rxFifoOverrun = true → t.rxFifoOverrun = true)

/-- Every step keeps the invariant: FIFO within its capacity, active event with a period of at least 1 and exactly while
a connection is attached, RESET and ACK reading 0, connection only while LIVE (10_state.md, the spec's decisions D1, D10,
D16, D17, D31 among its clauses). -/
def Obligations.StepKeepsTheInvariant : Prop :=
  ∀ (s t : State), s.Inv → step s = .next t → t.Inv

/-- The power-on state meets the invariant (values D24, D36; log 3, log 4). -/
def Obligations.PowerOnMeetsTheInvariant : Prop := State.reset.Inv

/-- The event history only grows: no operation removes or rewrites an output, and PEER_RECV alone adds to the results
given to the peer (D26; log 8). -/
def Obligations.OutputsAreOnlyAppended : Prop :=
  ∀ (i : Instr) (s t : State), exec i s = .next t →
    (∃ es, t.events = s.events ++ es) ∧ (∃ rs, t.peerResults = s.peerResults ++ rs ∧ (rs ≠ [] → i = .peerRecv))

/-- The configuration is fixed (10_state.md section 9; that State carries it is the model's, log 4): no operation writes
it, the protocol among its parameters. -/
def Obligations.ConfigurationIsNeverWritten : Prop :=
  ∀ (i : Instr) (s t : State), exec i s = .next t → t.config = s.config

/-- A Status read that shows TXRDY leaves nothing due and the slot empty, so the next data write loses no byte and runs
no transfer (70_reset_and_hazards.md section 3, the spec's inference; D7, D14). -/
def Obligations.DataWriteAfterReadyStatusLosesNothing : Prop :=
  ∀ (s : State) (value : Word), s.Inv → s.life = .live →
    ∃ t word, exec .rdStat s = .next t ∧ t.events.getLast? = some (.readResult word) ∧
      (word.getLsbD 0 = true →
        t.txFull = false ∧ exec (.wrData value) t = .next { t with txByte := value.setWidth 8, txFull := true })

/-! ## Connection (44_host_events.md section 2) -/

/-- Conn.Read takes nothing with fewer than the least bytes asked for, and else up to the most asked for from the front
of the stream; Conn.Write delivers the first k bytes and records the call, for a drawn count k in range, every count in
range being drawn by some list of draws (D18; the draws, log 6). -/
def Obligations.ConnectionReadsAndWritesInOrder : Prop :=
  ∀ (s : State) (c : Connection) (most least : Nat) (bytes : List Byte), s.conn = some c →
    (c.inbound.length < least → s.connReadBytes most least = [] ∧ s.connRead most least = s) ∧
    (least ≤ c.inbound.length →
      s.connReadBytes most least = c.inbound.take most ∧
      s.connRead most least = { s with conn := some { c with inbound := c.inbound.drop most } }) ∧
    (∃ k, k ≤ bytes.length ∧
      (s.connWrite bytes).conn = some { c with outbound := c.outbound ++ bytes.take k } ∧
      (s.connWrite bytes).events = s.events ++ [.connWrite bytes k]) ∧
    (∀ k later, k ≤ bytes.length → s.acceptDraws = k :: later →
      s.connWrite bytes =
        { s with
          conn := some { c with outbound := c.outbound ++ bytes.take k }
          events := s.events ++ [.connWrite bytes k]
          acceptDraws := later })

/-! ## Host events (44_host_events.md section 1) -/

/-- CONSTRUCT: power-on values and the construction's soft reset; no connection, so the event stays inactive; Status
reads 0x00000005 (values D24; what is kept of the environment, log 11). -/
def Obligations.ConstructYieldsTheResetState : Prop :=
  ∀ (s : State), s.life = .unbuilt →
    ∃ t, exec .construct s = .next t ∧ t.status = 0x00000005#32 ∧
      t = { s with
        life := .live, ctrl := 0x0000#16, rxParity := false, rxFifoOverrun := false, rxBadStopBit := false
        intr := false, dtrIn := false, ctsIn := false, mode := 0x0000#16, baud := 0x00DC#16, fifo := []
        txFull := false, txByte := 0x00#8, evActive := false, evPeriod := 0, evElapsed := 0, conn := none }

/-- R302: SHUTDOWN (0x31) deactivates the event, discards the connection and ends the instance; due transfers are never
performed, and every later operation is refused. -/
def Obligations.ShutdownEndsTheInstance : Prop :=
  Instr.shutdown.descriptor = 0x31#6 ∧ ∀ (s : State), s.life = .live →
    ∃ t, exec .shutdown s = .next t ∧ t = { s with evActive := false, conn := none, life := .dead } ∧
      ∀ i, exec i t = .refused (.lifecycle .dead)

/-- ATTACH creates a connection that is down and empty and schedules the event with the period of MODE and BAUD as they
are now; DETACH discards it and deactivates the event, the mirrors kept (D17). The premise rules out an active event
without a connection, which no run reaches. -/
def Obligations.AttachSchedulesAndDetachDeactivates : Prop :=
  ∀ (s : State), s.Inv → s.life = .live →
    (s.conn = none → exec .attach s =
      .next { s with
        conn := some ⟨false, [], []⟩
        evActive := true
        evPeriod := if ticksBetweenTransfers s.mode s.baud = 0 then s.config.maxSliceTicks
          else ticksBetweenTransfers s.mode s.baud
        evElapsed := 0 }) ∧
    (s.conn.isSome = true → exec .detach s = .next { s with conn := none, evActive := false })

/-- LOAD sets the registers from the image, RESET and ACK never stored, the derived and unnamed Status bits ignored,
empties FIFO and slot, reschedules from the loaded values and makes no output; SAVE gives the four register values and
changes nothing (D25). -/
def Obligations.LoadAndSaveTransferTheFourRegisters : Prop :=
  ∀ (s : State) (m : Image), s.life = .live →
    exec .save s = .next { s with events := s.events ++ [.saveImage ⟨s.ctrl, s.status, s.mode, s.baud⟩] } ∧
    exec (.load m) s = .next (State.rescheduleIfNeeded { s with
      ctrl := m.ctrl &&& 0xFFAF#16, rxParity := m.stat.getLsbD 3, rxFifoOverrun := m.stat.getLsbD 4
      rxBadStopBit := m.stat.getLsbD 5, dtrIn := m.stat.getLsbD 7, ctsIn := m.stat.getLsbD 8
      intr := m.stat.getLsbD 9, mode := m.mode, baud := m.baud, fifo := [], txFull := false })

/-- An image saved in one state and loaded in another gives it the registers, latches and mirrors of the first, with
FIFO and slot empty (D25). -/
def Obligations.SaveThenLoadRestoresTheRegisters : Prop :=
  ∀ (s u : State), s.Inv → s.life = .live → u.life = .live →
    ∃ m t, exec .save s = .next { s with events := s.events ++ [.saveImage m] } ∧ exec (.load m) u = .next t ∧
      t.ctrl = s.ctrl ∧ t.mode = s.mode ∧ t.baud = s.baud ∧ t.rxParity = s.rxParity ∧
      t.rxFifoOverrun = s.rxFifoOverrun ∧ t.rxBadStopBit = s.rxBadStopBit ∧ t.intr = s.intr ∧ t.dtrIn = s.dtrIn ∧
      t.ctsIn = s.ctsIn ∧ t.fifo = [] ∧ t.txFull = false ∧ t.events = u.events

/-- The connection's events: the link goes up and down with the buffers kept, the peer's bytes join the inbound stream
in order, and the peer takes the whole outbound stream (D18; the peer's results, log 8). -/
def Obligations.ConnectionEventsMoveBytesInOrder : Prop :=
  ∀ (s : State) (c : Connection) (first : Byte) (rest : List Byte), s.life = .live → s.conn = some c →
    exec .linkUp s = .next { s with conn := some { c with up := true } } ∧
    exec .linkDown s = .next { s with conn := some { c with up := false } } ∧
    exec (.peerSend first rest) s = .next { s with conn := some { c with inbound := c.inbound ++ [first] ++ rest } } ∧
    exec .peerRecv s =
      .next { s with conn := some { c with outbound := [] }, peerResults := s.peerResults ++ [c.outbound] }

/-- The register window is the sixteen addresses from SIO_BASE; no other address reaches the block (size and base D5;
log 18). -/
def Obligations.WindowIsSixteenAddressesFromItsBase : Prop :=
  ∀ (c : Config) (address : Nat),
    (∀ offset : BitVec 4, windowOffset c address = some offset ↔ address = c.sioBase + offset.toNat) ∧
    (windowOffset c address = none ↔ address < c.sioBase ∨ c.sioBase + 16 ≤ address)
end

