-- ==== Sys2Proof/Laws/Decode.lean ====
section
/-! SUPPORT. Operand bytes and descriptors: reading back what was written, and writing back what was read. -/

namespace Sys2Proof

/-! ## Operand bytes -/

theorem takeHalf_halfBytes (v : Half) (rest : List Byte) : takeHalf (halfBytes v ++ rest) = some (v, rest) := by
  have : v.extractLsb' 8 8 ++ v.extractLsb' 0 8 = v := by
    ext i hi
    simp only [BitVec.getElem_append, BitVec.getElem_extractLsb']
    split <;> (rw [BitVec.getLsbD_eq_getElem (by omega)]; congr 1; omega)
  simp [takeHalf, halfBytes, this]

theorem takeWord_wordBytes (v : Word) (rest : List Byte) : takeWord (wordBytes v ++ rest) = some (v, rest) := by
  have : v.extractLsb' 24 8 ++ v.extractLsb' 16 8 ++ v.extractLsb' 8 8 ++ v.extractLsb' 0 8 = v := by
    ext i hi
    simp only [BitVec.getElem_append, BitVec.getElem_extractLsb']
    repeat' split
    all_goals (rw [BitVec.getLsbD_eq_getElem (by omega)]; congr 1; omega)
  simp [takeWord, wordBytes, this]

theorem takeImage_imageBytes (m : Image) (rest : List Byte) : takeImage (imageBytes m ++ rest) = some (m, rest) := by
  simp [takeImage, imageBytes, List.append_assoc, takeHalf_halfBytes, takeWord_wordBytes]

theorem takeBytes_listBytes (b : Byte) (bs rest : List Byte) :
    takeBytes (listBytes b bs ++ rest) = some ((b, bs), rest) := by
  induction bs generalizing b with
  | nil => simp [listBytes, takeBytes]
  | cons b' bs ih => simp [listBytes, takeBytes, ih]

theorem halfBytes_takeHalf {bytes rest : List Byte} {v : Half} (h : takeHalf bytes = some (v, rest)) :
    bytes = halfBytes v ++ rest := by
  match bytes with
  | b0 :: b1 :: tl =>
    simp only [takeHalf, Option.some.injEq, Prod.mk.injEq] at h
    obtain ⟨rfl, rfl⟩ := h
    simp only [halfBytes, List.cons_append, List.nil_append, List.cons.injEq, and_true]
    refine ⟨?_, ?_⟩ <;>
      (ext i hi
       simp only [BitVec.getElem_extractLsb', BitVec.getLsbD_append]
       rw [← BitVec.getLsbD_eq_getElem]
       repeat' split
       all_goals first | omega | (congr 1; omega))
  | [] => simp [takeHalf] at h
  | [_] => simp [takeHalf] at h

theorem wordBytes_takeWord {bytes rest : List Byte} {v : Word} (h : takeWord bytes = some (v, rest)) :
    bytes = wordBytes v ++ rest := by
  match bytes with
  | b0 :: b1 :: b2 :: b3 :: tl =>
    simp only [takeWord, Option.some.injEq, Prod.mk.injEq] at h
    obtain ⟨rfl, rfl⟩ := h
    simp only [wordBytes, List.cons_append, List.nil_append, List.cons.injEq, and_true]
    refine ⟨?_, ?_, ?_, ?_⟩ <;>
      (ext i hi
       simp only [BitVec.getElem_extractLsb', BitVec.getLsbD_append]
       rw [← BitVec.getLsbD_eq_getElem]
       repeat' split
       all_goals first | omega | (congr 1; omega))
  | [] => simp [takeWord] at h
  | [_] => simp [takeWord] at h
  | [_, _] => simp [takeWord] at h
  | [_, _, _] => simp [takeWord] at h

theorem imageBytes_takeImage {bytes rest : List Byte} {m : Image} (h : takeImage bytes = some (m, rest)) :
    bytes = imageBytes m ++ rest := by
  simp only [takeImage, bind, Option.bind_eq_some_iff, pure, Option.some.injEq, Prod.mk.injEq, Prod.exists] at h
  obtain ⟨c, r1, h1, st, r2, h2, md, r3, h3, bd, r4, h4, rfl, rfl⟩ := h
  rw [halfBytes_takeHalf h1, wordBytes_takeWord h2, halfBytes_takeHalf h3, halfBytes_takeHalf h4]
  simp [imageBytes]

theorem listBytes_takeBytes {bytes rest : List Byte} {b : Byte} {bs : List Byte}
    (h : takeBytes bytes = some ((b, bs), rest)) : bytes = listBytes b bs ++ rest := by
  match bytes with
  | [] => simp [takeBytes] at h
  | [_] => simp [takeBytes] at h
  | more :: x :: tl =>
    unfold takeBytes at h
    split at h
    · rename_i hm
      simp only [Option.some.injEq, Prod.mk.injEq] at h
      obtain ⟨⟨rfl, rfl⟩, rfl⟩ := h
      simp [listBytes, hm]
    · split at h
      · rename_i hm
        split at h
        · rename_i b' bs' rest' ht
          simp only [Option.some.injEq, Prod.mk.injEq] at h
          obtain ⟨⟨rfl, rfl⟩, rfl⟩ := h
          simp [listBytes, hm, listBytes_takeBytes ht]
        · cases h
      · cases h

end Sys2Proof
end

