-- ==== Sys2Proof/Laws/State.lean ====
section
/-! SUPPORT. For each named update of State, what each field is after it: every lemma is true by unfolding the update. -/

namespace Sys2Proof.Machine

variable (s : State)

/-! ## `emit` (10_state.md R66) -/

@[simp] theorem State.emit_life (e : Event) : (s.emit e).life = s.life := rfl
@[simp] theorem State.emit_config (e : Event) : (s.emit e).config = s.config := rfl
@[simp] theorem State.emit_ctrl (e : Event) : (s.emit e).ctrl = s.ctrl := rfl
@[simp] theorem State.emit_rxParity (e : Event) : (s.emit e).rxParity = s.rxParity := rfl
@[simp] theorem State.emit_rxFifoOverrun (e : Event) : (s.emit e).rxFifoOverrun = s.rxFifoOverrun := rfl
@[simp] theorem State.emit_rxBadStopBit (e : Event) : (s.emit e).rxBadStopBit = s.rxBadStopBit := rfl
@[simp] theorem State.emit_intr (e : Event) : (s.emit e).intr = s.intr := rfl
@[simp] theorem State.emit_dtrIn (e : Event) : (s.emit e).dtrIn = s.dtrIn := rfl
@[simp] theorem State.emit_ctsIn (e : Event) : (s.emit e).ctsIn = s.ctsIn := rfl
@[simp] theorem State.emit_mode (e : Event) : (s.emit e).mode = s.mode := rfl
@[simp] theorem State.emit_baud (e : Event) : (s.emit e).baud = s.baud := rfl
@[simp] theorem State.emit_fifo (e : Event) : (s.emit e).fifo = s.fifo := rfl
@[simp] theorem State.emit_txFull (e : Event) : (s.emit e).txFull = s.txFull := rfl
@[simp] theorem State.emit_txByte (e : Event) : (s.emit e).txByte = s.txByte := rfl
@[simp] theorem State.emit_evActive (e : Event) : (s.emit e).evActive = s.evActive := rfl
@[simp] theorem State.emit_evPeriod (e : Event) : (s.emit e).evPeriod = s.evPeriod := rfl
@[simp] theorem State.emit_evElapsed (e : Event) : (s.emit e).evElapsed = s.evElapsed := rfl
@[simp] theorem State.emit_conn (e : Event) : (s.emit e).conn = s.conn := rfl
@[simp] theorem State.emit_events (e : Event) : (s.emit e).events = s.events ++ [e] := rfl
@[simp] theorem State.emit_peerResults (e : Event) : (s.emit e).peerResults = s.peerResults := rfl
@[simp] theorem State.emit_script (e : Event) : (s.emit e).script = s.script := rfl
@[simp] theorem State.emit_acceptDraws (e : Event) : (s.emit e).acceptDraws = s.acceptDraws := rfl
@[simp] theorem State.emit_drawCount (e : Event) : (s.emit e).drawCount = s.drawCount := rfl

/-! ## `setMirrors` (R46) -/

@[simp] theorem State.setMirrors_life (dtr cts : Bool) : (s.setMirrors dtr cts).life = s.life := rfl
@[simp] theorem State.setMirrors_config (dtr cts : Bool) : (s.setMirrors dtr cts).config = s.config := rfl
@[simp] theorem State.setMirrors_ctrl (dtr cts : Bool) : (s.setMirrors dtr cts).ctrl = s.ctrl := rfl
@[simp] theorem State.setMirrors_rxParity (dtr cts : Bool) : (s.setMirrors dtr cts).rxParity = s.rxParity := rfl
@[simp] theorem State.setMirrors_rxFifoOverrun (dtr cts : Bool) : (s.setMirrors dtr cts).rxFifoOverrun = s.rxFifoOverrun := rfl
@[simp] theorem State.setMirrors_rxBadStopBit (dtr cts : Bool) : (s.setMirrors dtr cts).rxBadStopBit = s.rxBadStopBit := rfl
@[simp] theorem State.setMirrors_intr (dtr cts : Bool) : (s.setMirrors dtr cts).intr = s.intr := rfl
@[simp] theorem State.setMirrors_dtrIn (dtr cts : Bool) : (s.setMirrors dtr cts).dtrIn = dtr := rfl
@[simp] theorem State.setMirrors_ctsIn (dtr cts : Bool) : (s.setMirrors dtr cts).ctsIn = cts := rfl
@[simp] theorem State.setMirrors_mode (dtr cts : Bool) : (s.setMirrors dtr cts).mode = s.mode := rfl
@[simp] theorem State.setMirrors_baud (dtr cts : Bool) : (s.setMirrors dtr cts).baud = s.baud := rfl
@[simp] theorem State.setMirrors_fifo (dtr cts : Bool) : (s.setMirrors dtr cts).fifo = s.fifo := rfl
@[simp] theorem State.setMirrors_txFull (dtr cts : Bool) : (s.setMirrors dtr cts).txFull = s.txFull := rfl
@[simp] theorem State.setMirrors_txByte (dtr cts : Bool) : (s.setMirrors dtr cts).txByte = s.txByte := rfl
@[simp] theorem State.setMirrors_evActive (dtr cts : Bool) : (s.setMirrors dtr cts).evActive = s.evActive := rfl
@[simp] theorem State.setMirrors_evPeriod (dtr cts : Bool) : (s.setMirrors dtr cts).evPeriod = s.evPeriod := rfl
@[simp] theorem State.setMirrors_evElapsed (dtr cts : Bool) : (s.setMirrors dtr cts).evElapsed = s.evElapsed := rfl
@[simp] theorem State.setMirrors_conn (dtr cts : Bool) : (s.setMirrors dtr cts).conn = s.conn := rfl
@[simp] theorem State.setMirrors_events (dtr cts : Bool) : (s.setMirrors dtr cts).events = s.events := rfl
@[simp] theorem State.setMirrors_peerResults (dtr cts : Bool) : (s.setMirrors dtr cts).peerResults = s.peerResults := rfl
@[simp] theorem State.setMirrors_script (dtr cts : Bool) : (s.setMirrors dtr cts).script = s.script := rfl
@[simp] theorem State.setMirrors_acceptDraws (dtr cts : Bool) : (s.setMirrors dtr cts).acceptDraws = s.acceptDraws := rfl
@[simp] theorem State.setMirrors_drawCount (dtr cts : Bool) : (s.setMirrors dtr cts).drawCount = s.drawCount := rfl

/-! ## `setConn` (R63, R314) -/

@[simp] theorem State.setConn_life (c : Option Connection) : (s.setConn c).life = s.life := rfl
@[simp] theorem State.setConn_config (c : Option Connection) : (s.setConn c).config = s.config := rfl
@[simp] theorem State.setConn_ctrl (c : Option Connection) : (s.setConn c).ctrl = s.ctrl := rfl
@[simp] theorem State.setConn_rxParity (c : Option Connection) : (s.setConn c).rxParity = s.rxParity := rfl
@[simp] theorem State.setConn_rxFifoOverrun (c : Option Connection) : (s.setConn c).rxFifoOverrun = s.rxFifoOverrun := rfl
@[simp] theorem State.setConn_rxBadStopBit (c : Option Connection) : (s.setConn c).rxBadStopBit = s.rxBadStopBit := rfl
@[simp] theorem State.setConn_intr (c : Option Connection) : (s.setConn c).intr = s.intr := rfl
@[simp] theorem State.setConn_dtrIn (c : Option Connection) : (s.setConn c).dtrIn = s.dtrIn := rfl
@[simp] theorem State.setConn_ctsIn (c : Option Connection) : (s.setConn c).ctsIn = s.ctsIn := rfl
@[simp] theorem State.setConn_mode (c : Option Connection) : (s.setConn c).mode = s.mode := rfl
@[simp] theorem State.setConn_baud (c : Option Connection) : (s.setConn c).baud = s.baud := rfl
@[simp] theorem State.setConn_fifo (c : Option Connection) : (s.setConn c).fifo = s.fifo := rfl
@[simp] theorem State.setConn_txFull (c : Option Connection) : (s.setConn c).txFull = s.txFull := rfl
@[simp] theorem State.setConn_txByte (c : Option Connection) : (s.setConn c).txByte = s.txByte := rfl
@[simp] theorem State.setConn_evActive (c : Option Connection) : (s.setConn c).evActive = s.evActive := rfl
@[simp] theorem State.setConn_evPeriod (c : Option Connection) : (s.setConn c).evPeriod = s.evPeriod := rfl
@[simp] theorem State.setConn_evElapsed (c : Option Connection) : (s.setConn c).evElapsed = s.evElapsed := rfl
@[simp] theorem State.setConn_conn (c : Option Connection) : (s.setConn c).conn = c := rfl
@[simp] theorem State.setConn_events (c : Option Connection) : (s.setConn c).events = s.events := rfl
@[simp] theorem State.setConn_peerResults (c : Option Connection) : (s.setConn c).peerResults = s.peerResults := rfl
@[simp] theorem State.setConn_script (c : Option Connection) : (s.setConn c).script = s.script := rfl
@[simp] theorem State.setConn_acceptDraws (c : Option Connection) : (s.setConn c).acceptDraws = s.acceptDraws := rfl
@[simp] theorem State.setConn_drawCount (c : Option Connection) : (s.setConn c).drawCount = s.drawCount := rfl

/-! ## `setCtrl` (R32) -/

@[simp] theorem State.setCtrl_life (v : Half) : (s.setCtrl v).life = s.life := rfl
@[simp] theorem State.setCtrl_config (v : Half) : (s.setCtrl v).config = s.config := rfl
@[simp] theorem State.setCtrl_ctrl (v : Half) : (s.setCtrl v).ctrl = v := rfl
@[simp] theorem State.setCtrl_rxParity (v : Half) : (s.setCtrl v).rxParity = s.rxParity := rfl
@[simp] theorem State.setCtrl_rxFifoOverrun (v : Half) : (s.setCtrl v).rxFifoOverrun = s.rxFifoOverrun := rfl
@[simp] theorem State.setCtrl_rxBadStopBit (v : Half) : (s.setCtrl v).rxBadStopBit = s.rxBadStopBit := rfl
@[simp] theorem State.setCtrl_intr (v : Half) : (s.setCtrl v).intr = s.intr := rfl
@[simp] theorem State.setCtrl_dtrIn (v : Half) : (s.setCtrl v).dtrIn = s.dtrIn := rfl
@[simp] theorem State.setCtrl_ctsIn (v : Half) : (s.setCtrl v).ctsIn = s.ctsIn := rfl
@[simp] theorem State.setCtrl_mode (v : Half) : (s.setCtrl v).mode = s.mode := rfl
@[simp] theorem State.setCtrl_baud (v : Half) : (s.setCtrl v).baud = s.baud := rfl
@[simp] theorem State.setCtrl_fifo (v : Half) : (s.setCtrl v).fifo = s.fifo := rfl
@[simp] theorem State.setCtrl_txFull (v : Half) : (s.setCtrl v).txFull = s.txFull := rfl
@[simp] theorem State.setCtrl_txByte (v : Half) : (s.setCtrl v).txByte = s.txByte := rfl
@[simp] theorem State.setCtrl_evActive (v : Half) : (s.setCtrl v).evActive = s.evActive := rfl
@[simp] theorem State.setCtrl_evPeriod (v : Half) : (s.setCtrl v).evPeriod = s.evPeriod := rfl
@[simp] theorem State.setCtrl_evElapsed (v : Half) : (s.setCtrl v).evElapsed = s.evElapsed := rfl
@[simp] theorem State.setCtrl_conn (v : Half) : (s.setCtrl v).conn = s.conn := rfl
@[simp] theorem State.setCtrl_events (v : Half) : (s.setCtrl v).events = s.events := rfl
@[simp] theorem State.setCtrl_peerResults (v : Half) : (s.setCtrl v).peerResults = s.peerResults := rfl
@[simp] theorem State.setCtrl_script (v : Half) : (s.setCtrl v).script = s.script := rfl
@[simp] theorem State.setCtrl_acceptDraws (v : Half) : (s.setCtrl v).acceptDraws = s.acceptDraws := rfl
@[simp] theorem State.setCtrl_drawCount (v : Half) : (s.setCtrl v).drawCount = s.drawCount := rfl

/-! ## `setFifo` (R51) -/

@[simp] theorem State.setFifo_life (f : List Byte) : (s.setFifo f).life = s.life := rfl
@[simp] theorem State.setFifo_config (f : List Byte) : (s.setFifo f).config = s.config := rfl
@[simp] theorem State.setFifo_ctrl (f : List Byte) : (s.setFifo f).ctrl = s.ctrl := rfl
@[simp] theorem State.setFifo_rxParity (f : List Byte) : (s.setFifo f).rxParity = s.rxParity := rfl
@[simp] theorem State.setFifo_rxFifoOverrun (f : List Byte) : (s.setFifo f).rxFifoOverrun = s.rxFifoOverrun := rfl
@[simp] theorem State.setFifo_rxBadStopBit (f : List Byte) : (s.setFifo f).rxBadStopBit = s.rxBadStopBit := rfl
@[simp] theorem State.setFifo_intr (f : List Byte) : (s.setFifo f).intr = s.intr := rfl
@[simp] theorem State.setFifo_dtrIn (f : List Byte) : (s.setFifo f).dtrIn = s.dtrIn := rfl
@[simp] theorem State.setFifo_ctsIn (f : List Byte) : (s.setFifo f).ctsIn = s.ctsIn := rfl
@[simp] theorem State.setFifo_mode (f : List Byte) : (s.setFifo f).mode = s.mode := rfl
@[simp] theorem State.setFifo_baud (f : List Byte) : (s.setFifo f).baud = s.baud := rfl
@[simp] theorem State.setFifo_fifo (f : List Byte) : (s.setFifo f).fifo = f := rfl
@[simp] theorem State.setFifo_txFull (f : List Byte) : (s.setFifo f).txFull = s.txFull := rfl
@[simp] theorem State.setFifo_txByte (f : List Byte) : (s.setFifo f).txByte = s.txByte := rfl
@[simp] theorem State.setFifo_evActive (f : List Byte) : (s.setFifo f).evActive = s.evActive := rfl
@[simp] theorem State.setFifo_evPeriod (f : List Byte) : (s.setFifo f).evPeriod = s.evPeriod := rfl
@[simp] theorem State.setFifo_evElapsed (f : List Byte) : (s.setFifo f).evElapsed = s.evElapsed := rfl
@[simp] theorem State.setFifo_conn (f : List Byte) : (s.setFifo f).conn = s.conn := rfl
@[simp] theorem State.setFifo_events (f : List Byte) : (s.setFifo f).events = s.events := rfl
@[simp] theorem State.setFifo_peerResults (f : List Byte) : (s.setFifo f).peerResults = s.peerResults := rfl
@[simp] theorem State.setFifo_script (f : List Byte) : (s.setFifo f).script = s.script := rfl
@[simp] theorem State.setFifo_acceptDraws (f : List Byte) : (s.setFifo f).acceptDraws = s.acceptDraws := rfl
@[simp] theorem State.setFifo_drawCount (f : List Byte) : (s.setFifo f).drawCount = s.drawCount := rfl

/-! ## `clearSlot` (R53) -/

@[simp] theorem State.clearSlot_life : (s.clearSlot).life = s.life := rfl
@[simp] theorem State.clearSlot_config : (s.clearSlot).config = s.config := rfl
@[simp] theorem State.clearSlot_ctrl : (s.clearSlot).ctrl = s.ctrl := rfl
@[simp] theorem State.clearSlot_rxParity : (s.clearSlot).rxParity = s.rxParity := rfl
@[simp] theorem State.clearSlot_rxFifoOverrun : (s.clearSlot).rxFifoOverrun = s.rxFifoOverrun := rfl
@[simp] theorem State.clearSlot_rxBadStopBit : (s.clearSlot).rxBadStopBit = s.rxBadStopBit := rfl
@[simp] theorem State.clearSlot_intr : (s.clearSlot).intr = s.intr := rfl
@[simp] theorem State.clearSlot_dtrIn : (s.clearSlot).dtrIn = s.dtrIn := rfl
@[simp] theorem State.clearSlot_ctsIn : (s.clearSlot).ctsIn = s.ctsIn := rfl
@[simp] theorem State.clearSlot_mode : (s.clearSlot).mode = s.mode := rfl
@[simp] theorem State.clearSlot_baud : (s.clearSlot).baud = s.baud := rfl
@[simp] theorem State.clearSlot_fifo : (s.clearSlot).fifo = s.fifo := rfl
@[simp] theorem State.clearSlot_txFull : (s.clearSlot).txFull = false := rfl
@[simp] theorem State.clearSlot_txByte : (s.clearSlot).txByte = s.txByte := rfl
@[simp] theorem State.clearSlot_evActive : (s.clearSlot).evActive = s.evActive := rfl
@[simp] theorem State.clearSlot_evPeriod : (s.clearSlot).evPeriod = s.evPeriod := rfl
@[simp] theorem State.clearSlot_evElapsed : (s.clearSlot).evElapsed = s.evElapsed := rfl
@[simp] theorem State.clearSlot_conn : (s.clearSlot).conn = s.conn := rfl
@[simp] theorem State.clearSlot_events : (s.clearSlot).events = s.events := rfl
@[simp] theorem State.clearSlot_peerResults : (s.clearSlot).peerResults = s.peerResults := rfl
@[simp] theorem State.clearSlot_script : (s.clearSlot).script = s.script := rfl
@[simp] theorem State.clearSlot_acceptDraws : (s.clearSlot).acceptDraws = s.acceptDraws := rfl
@[simp] theorem State.clearSlot_drawCount : (s.clearSlot).drawCount = s.drawCount := rfl

/-! ## `fillSlot` (R144) -/

@[simp] theorem State.fillSlot_life (b : Byte) : (s.fillSlot b).life = s.life := rfl
@[simp] theorem State.fillSlot_config (b : Byte) : (s.fillSlot b).config = s.config := rfl
@[simp] theorem State.fillSlot_ctrl (b : Byte) : (s.fillSlot b).ctrl = s.ctrl := rfl
@[simp] theorem State.fillSlot_rxParity (b : Byte) : (s.fillSlot b).rxParity = s.rxParity := rfl
@[simp] theorem State.fillSlot_rxFifoOverrun (b : Byte) : (s.fillSlot b).rxFifoOverrun = s.rxFifoOverrun := rfl
@[simp] theorem State.fillSlot_rxBadStopBit (b : Byte) : (s.fillSlot b).rxBadStopBit = s.rxBadStopBit := rfl
@[simp] theorem State.fillSlot_intr (b : Byte) : (s.fillSlot b).intr = s.intr := rfl
@[simp] theorem State.fillSlot_dtrIn (b : Byte) : (s.fillSlot b).dtrIn = s.dtrIn := rfl
@[simp] theorem State.fillSlot_ctsIn (b : Byte) : (s.fillSlot b).ctsIn = s.ctsIn := rfl
@[simp] theorem State.fillSlot_mode (b : Byte) : (s.fillSlot b).mode = s.mode := rfl
@[simp] theorem State.fillSlot_baud (b : Byte) : (s.fillSlot b).baud = s.baud := rfl
@[simp] theorem State.fillSlot_fifo (b : Byte) : (s.fillSlot b).fifo = s.fifo := rfl
@[simp] theorem State.fillSlot_txFull (b : Byte) : (s.fillSlot b).txFull = true := rfl
@[simp] theorem State.fillSlot_txByte (b : Byte) : (s.fillSlot b).txByte = b := rfl
@[simp] theorem State.fillSlot_evActive (b : Byte) : (s.fillSlot b).evActive = s.evActive := rfl
@[simp] theorem State.fillSlot_evPeriod (b : Byte) : (s.fillSlot b).evPeriod = s.evPeriod := rfl
@[simp] theorem State.fillSlot_evElapsed (b : Byte) : (s.fillSlot b).evElapsed = s.evElapsed := rfl
@[simp] theorem State.fillSlot_conn (b : Byte) : (s.fillSlot b).conn = s.conn := rfl
@[simp] theorem State.fillSlot_events (b : Byte) : (s.fillSlot b).events = s.events := rfl
@[simp] theorem State.fillSlot_peerResults (b : Byte) : (s.fillSlot b).peerResults = s.peerResults := rfl
@[simp] theorem State.fillSlot_script (b : Byte) : (s.fillSlot b).script = s.script := rfl
@[simp] theorem State.fillSlot_acceptDraws (b : Byte) : (s.fillSlot b).acceptDraws = s.acceptDraws := rfl
@[simp] theorem State.fillSlot_drawCount (b : Byte) : (s.fillSlot b).drawCount = s.drawCount := rfl

/-! ## `clearLatches` (R151) -/

@[simp] theorem State.clearLatches_life : (s.clearLatches).life = s.life := rfl
@[simp] theorem State.clearLatches_config : (s.clearLatches).config = s.config := rfl
@[simp] theorem State.clearLatches_ctrl : (s.clearLatches).ctrl = s.ctrl := rfl
@[simp] theorem State.clearLatches_rxParity : (s.clearLatches).rxParity = false := rfl
@[simp] theorem State.clearLatches_rxFifoOverrun : (s.clearLatches).rxFifoOverrun = false := rfl
@[simp] theorem State.clearLatches_rxBadStopBit : (s.clearLatches).rxBadStopBit = false := rfl
@[simp] theorem State.clearLatches_intr : (s.clearLatches).intr = false := rfl
@[simp] theorem State.clearLatches_dtrIn : (s.clearLatches).dtrIn = s.dtrIn := rfl
@[simp] theorem State.clearLatches_ctsIn : (s.clearLatches).ctsIn = s.ctsIn := rfl
@[simp] theorem State.clearLatches_mode : (s.clearLatches).mode = s.mode := rfl
@[simp] theorem State.clearLatches_baud : (s.clearLatches).baud = s.baud := rfl
@[simp] theorem State.clearLatches_fifo : (s.clearLatches).fifo = s.fifo := rfl
@[simp] theorem State.clearLatches_txFull : (s.clearLatches).txFull = s.txFull := rfl
@[simp] theorem State.clearLatches_txByte : (s.clearLatches).txByte = s.txByte := rfl
@[simp] theorem State.clearLatches_evActive : (s.clearLatches).evActive = s.evActive := rfl
@[simp] theorem State.clearLatches_evPeriod : (s.clearLatches).evPeriod = s.evPeriod := rfl
@[simp] theorem State.clearLatches_evElapsed : (s.clearLatches).evElapsed = s.evElapsed := rfl
@[simp] theorem State.clearLatches_conn : (s.clearLatches).conn = s.conn := rfl
@[simp] theorem State.clearLatches_events : (s.clearLatches).events = s.events := rfl
@[simp] theorem State.clearLatches_peerResults : (s.clearLatches).peerResults = s.peerResults := rfl
@[simp] theorem State.clearLatches_script : (s.clearLatches).script = s.script := rfl
@[simp] theorem State.clearLatches_acceptDraws : (s.clearLatches).acceptDraws = s.acceptDraws := rfl
@[simp] theorem State.clearLatches_drawCount : (s.clearLatches).drawCount = s.drawCount := rfl

/-! ## `setScript` (log 2) -/

@[simp] theorem State.setScript_life (bytes : List Byte) : (s.setScript bytes).life = s.life := rfl
@[simp] theorem State.setScript_config (bytes : List Byte) : (s.setScript bytes).config = s.config := rfl
@[simp] theorem State.setScript_ctrl (bytes : List Byte) : (s.setScript bytes).ctrl = s.ctrl := rfl
@[simp] theorem State.setScript_rxParity (bytes : List Byte) : (s.setScript bytes).rxParity = s.rxParity := rfl
@[simp] theorem State.setScript_rxFifoOverrun (bytes : List Byte) : (s.setScript bytes).rxFifoOverrun = s.rxFifoOverrun := rfl
@[simp] theorem State.setScript_rxBadStopBit (bytes : List Byte) : (s.setScript bytes).rxBadStopBit = s.rxBadStopBit := rfl
@[simp] theorem State.setScript_intr (bytes : List Byte) : (s.setScript bytes).intr = s.intr := rfl
@[simp] theorem State.setScript_dtrIn (bytes : List Byte) : (s.setScript bytes).dtrIn = s.dtrIn := rfl
@[simp] theorem State.setScript_ctsIn (bytes : List Byte) : (s.setScript bytes).ctsIn = s.ctsIn := rfl
@[simp] theorem State.setScript_mode (bytes : List Byte) : (s.setScript bytes).mode = s.mode := rfl
@[simp] theorem State.setScript_baud (bytes : List Byte) : (s.setScript bytes).baud = s.baud := rfl
@[simp] theorem State.setScript_fifo (bytes : List Byte) : (s.setScript bytes).fifo = s.fifo := rfl
@[simp] theorem State.setScript_txFull (bytes : List Byte) : (s.setScript bytes).txFull = s.txFull := rfl
@[simp] theorem State.setScript_txByte (bytes : List Byte) : (s.setScript bytes).txByte = s.txByte := rfl
@[simp] theorem State.setScript_evActive (bytes : List Byte) : (s.setScript bytes).evActive = s.evActive := rfl
@[simp] theorem State.setScript_evPeriod (bytes : List Byte) : (s.setScript bytes).evPeriod = s.evPeriod := rfl
@[simp] theorem State.setScript_evElapsed (bytes : List Byte) : (s.setScript bytes).evElapsed = s.evElapsed := rfl
@[simp] theorem State.setScript_conn (bytes : List Byte) : (s.setScript bytes).conn = s.conn := rfl
@[simp] theorem State.setScript_events (bytes : List Byte) : (s.setScript bytes).events = s.events := rfl
@[simp] theorem State.setScript_peerResults (bytes : List Byte) : (s.setScript bytes).peerResults = s.peerResults := rfl
@[simp] theorem State.setScript_script (bytes : List Byte) : (s.setScript bytes).script = bytes := rfl
@[simp] theorem State.setScript_acceptDraws (bytes : List Byte) : (s.setScript bytes).acceptDraws = s.acceptDraws := rfl
@[simp] theorem State.setScript_drawCount (bytes : List Byte) : (s.setScript bytes).drawCount = s.drawCount := rfl

/-! ## `raiseInterrupt` (60_exceptions.md R343) -/

@[simp] theorem State.raiseInterrupt_life : (s.raiseInterrupt).life = s.life := rfl
@[simp] theorem State.raiseInterrupt_config : (s.raiseInterrupt).config = s.config := rfl
@[simp] theorem State.raiseInterrupt_ctrl : (s.raiseInterrupt).ctrl = s.ctrl := rfl
@[simp] theorem State.raiseInterrupt_rxParity : (s.raiseInterrupt).rxParity = s.rxParity := rfl
@[simp] theorem State.raiseInterrupt_rxFifoOverrun : (s.raiseInterrupt).rxFifoOverrun = s.rxFifoOverrun := rfl
@[simp] theorem State.raiseInterrupt_rxBadStopBit : (s.raiseInterrupt).rxBadStopBit = s.rxBadStopBit := rfl
@[simp] theorem State.raiseInterrupt_intr : (s.raiseInterrupt).intr = true := rfl
@[simp] theorem State.raiseInterrupt_dtrIn : (s.raiseInterrupt).dtrIn = s.dtrIn := rfl
@[simp] theorem State.raiseInterrupt_ctsIn : (s.raiseInterrupt).ctsIn = s.ctsIn := rfl
@[simp] theorem State.raiseInterrupt_mode : (s.raiseInterrupt).mode = s.mode := rfl
@[simp] theorem State.raiseInterrupt_baud : (s.raiseInterrupt).baud = s.baud := rfl
@[simp] theorem State.raiseInterrupt_fifo : (s.raiseInterrupt).fifo = s.fifo := rfl
@[simp] theorem State.raiseInterrupt_txFull : (s.raiseInterrupt).txFull = s.txFull := rfl
@[simp] theorem State.raiseInterrupt_txByte : (s.raiseInterrupt).txByte = s.txByte := rfl
@[simp] theorem State.raiseInterrupt_evActive : (s.raiseInterrupt).evActive = s.evActive := rfl
@[simp] theorem State.raiseInterrupt_evPeriod : (s.raiseInterrupt).evPeriod = s.evPeriod := rfl
@[simp] theorem State.raiseInterrupt_evElapsed : (s.raiseInterrupt).evElapsed = s.evElapsed := rfl
@[simp] theorem State.raiseInterrupt_conn : (s.raiseInterrupt).conn = s.conn := rfl
@[simp] theorem State.raiseInterrupt_events : (s.raiseInterrupt).events = s.events ++ [.requestInterrupt s.config.irqChannel] := rfl
@[simp] theorem State.raiseInterrupt_peerResults : (s.raiseInterrupt).peerResults = s.peerResults := rfl
@[simp] theorem State.raiseInterrupt_script : (s.raiseInterrupt).script = s.script := rfl
@[simp] theorem State.raiseInterrupt_acceptDraws : (s.raiseInterrupt).acceptDraws = s.acceptDraws := rfl
@[simp] theorem State.raiseInterrupt_drawCount : (s.raiseInterrupt).drawCount = s.drawCount := rfl

/-! ## `deactivate` (41_scheduler.md R202) -/

@[simp] theorem State.deactivate_life : (s.deactivate).life = s.life := rfl
@[simp] theorem State.deactivate_config : (s.deactivate).config = s.config := rfl
@[simp] theorem State.deactivate_ctrl : (s.deactivate).ctrl = s.ctrl := rfl
@[simp] theorem State.deactivate_rxParity : (s.deactivate).rxParity = s.rxParity := rfl
@[simp] theorem State.deactivate_rxFifoOverrun : (s.deactivate).rxFifoOverrun = s.rxFifoOverrun := rfl
@[simp] theorem State.deactivate_rxBadStopBit : (s.deactivate).rxBadStopBit = s.rxBadStopBit := rfl
@[simp] theorem State.deactivate_intr : (s.deactivate).intr = s.intr := rfl
@[simp] theorem State.deactivate_dtrIn : (s.deactivate).dtrIn = s.dtrIn := rfl
@[simp] theorem State.deactivate_ctsIn : (s.deactivate).ctsIn = s.ctsIn := rfl
@[simp] theorem State.deactivate_mode : (s.deactivate).mode = s.mode := rfl
@[simp] theorem State.deactivate_baud : (s.deactivate).baud = s.baud := rfl
@[simp] theorem State.deactivate_fifo : (s.deactivate).fifo = s.fifo := rfl
@[simp] theorem State.deactivate_txFull : (s.deactivate).txFull = s.txFull := rfl
@[simp] theorem State.deactivate_txByte : (s.deactivate).txByte = s.txByte := rfl
@[simp] theorem State.deactivate_evActive : (s.deactivate).evActive = false := rfl
@[simp] theorem State.deactivate_evPeriod : (s.deactivate).evPeriod = s.evPeriod := rfl
@[simp] theorem State.deactivate_evElapsed : (s.deactivate).evElapsed = s.evElapsed := rfl
@[simp] theorem State.deactivate_conn : (s.deactivate).conn = s.conn := rfl
@[simp] theorem State.deactivate_events : (s.deactivate).events = s.events := rfl
@[simp] theorem State.deactivate_peerResults : (s.deactivate).peerResults = s.peerResults := rfl
@[simp] theorem State.deactivate_script : (s.deactivate).script = s.script := rfl
@[simp] theorem State.deactivate_acceptDraws : (s.deactivate).acceptDraws = s.acceptDraws := rfl
@[simp] theorem State.deactivate_drawCount : (s.deactivate).drawCount = s.drawCount := rfl

/-! ## `setPeriodAndSchedule` (R202) -/

@[simp] theorem State.setPeriodAndSchedule_life (p : Nat) : (s.setPeriodAndSchedule p).life = s.life := rfl
@[simp] theorem State.setPeriodAndSchedule_config (p : Nat) : (s.setPeriodAndSchedule p).config = s.config := rfl
@[simp] theorem State.setPeriodAndSchedule_ctrl (p : Nat) : (s.setPeriodAndSchedule p).ctrl = s.ctrl := rfl
@[simp] theorem State.setPeriodAndSchedule_rxParity (p : Nat) : (s.setPeriodAndSchedule p).rxParity = s.rxParity := rfl
@[simp] theorem State.setPeriodAndSchedule_rxFifoOverrun (p : Nat) : (s.setPeriodAndSchedule p).rxFifoOverrun = s.rxFifoOverrun := rfl
@[simp] theorem State.setPeriodAndSchedule_rxBadStopBit (p : Nat) : (s.setPeriodAndSchedule p).rxBadStopBit = s.rxBadStopBit := rfl
@[simp] theorem State.setPeriodAndSchedule_intr (p : Nat) : (s.setPeriodAndSchedule p).intr = s.intr := rfl
@[simp] theorem State.setPeriodAndSchedule_dtrIn (p : Nat) : (s.setPeriodAndSchedule p).dtrIn = s.dtrIn := rfl
@[simp] theorem State.setPeriodAndSchedule_ctsIn (p : Nat) : (s.setPeriodAndSchedule p).ctsIn = s.ctsIn := rfl
@[simp] theorem State.setPeriodAndSchedule_mode (p : Nat) : (s.setPeriodAndSchedule p).mode = s.mode := rfl
@[simp] theorem State.setPeriodAndSchedule_baud (p : Nat) : (s.setPeriodAndSchedule p).baud = s.baud := rfl
@[simp] theorem State.setPeriodAndSchedule_fifo (p : Nat) : (s.setPeriodAndSchedule p).fifo = s.fifo := rfl
@[simp] theorem State.setPeriodAndSchedule_txFull (p : Nat) : (s.setPeriodAndSchedule p).txFull = s.txFull := rfl
@[simp] theorem State.setPeriodAndSchedule_txByte (p : Nat) : (s.setPeriodAndSchedule p).txByte = s.txByte := rfl
@[simp] theorem State.setPeriodAndSchedule_evActive (p : Nat) : (s.setPeriodAndSchedule p).evActive = true := rfl
@[simp] theorem State.setPeriodAndSchedule_evPeriod (p : Nat) : (s.setPeriodAndSchedule p).evPeriod = p := rfl
@[simp] theorem State.setPeriodAndSchedule_evElapsed (p : Nat) : (s.setPeriodAndSchedule p).evElapsed = 0 := rfl
@[simp] theorem State.setPeriodAndSchedule_conn (p : Nat) : (s.setPeriodAndSchedule p).conn = s.conn := rfl
@[simp] theorem State.setPeriodAndSchedule_events (p : Nat) : (s.setPeriodAndSchedule p).events = s.events := rfl
@[simp] theorem State.setPeriodAndSchedule_peerResults (p : Nat) : (s.setPeriodAndSchedule p).peerResults = s.peerResults := rfl
@[simp] theorem State.setPeriodAndSchedule_script (p : Nat) : (s.setPeriodAndSchedule p).script = s.script := rfl
@[simp] theorem State.setPeriodAndSchedule_acceptDraws (p : Nat) : (s.setPeriodAndSchedule p).acceptDraws = s.acceptDraws := rfl
@[simp] theorem State.setPeriodAndSchedule_drawCount (p : Nat) : (s.setPeriodAndSchedule p).drawCount = s.drawCount := rfl

/-! ## `resetRegisters` (70_reset_and_hazards.md R380) -/

@[simp] theorem State.resetRegisters_life : (s.resetRegisters).life = s.life := rfl
@[simp] theorem State.resetRegisters_config : (s.resetRegisters).config = s.config := rfl
@[simp] theorem State.resetRegisters_ctrl : (s.resetRegisters).ctrl = 0x0000#16 := rfl
@[simp] theorem State.resetRegisters_rxParity : (s.resetRegisters).rxParity = false := rfl
@[simp] theorem State.resetRegisters_rxFifoOverrun : (s.resetRegisters).rxFifoOverrun = false := rfl
@[simp] theorem State.resetRegisters_rxBadStopBit : (s.resetRegisters).rxBadStopBit = false := rfl
@[simp] theorem State.resetRegisters_intr : (s.resetRegisters).intr = false := rfl
@[simp] theorem State.resetRegisters_dtrIn : (s.resetRegisters).dtrIn = s.dtrIn := rfl
@[simp] theorem State.resetRegisters_ctsIn : (s.resetRegisters).ctsIn = s.ctsIn := rfl
@[simp] theorem State.resetRegisters_mode : (s.resetRegisters).mode = 0x0000#16 := rfl
@[simp] theorem State.resetRegisters_baud : (s.resetRegisters).baud = baudDefault := rfl
@[simp] theorem State.resetRegisters_fifo : (s.resetRegisters).fifo = [] := rfl
@[simp] theorem State.resetRegisters_txFull : (s.resetRegisters).txFull = false := rfl
@[simp] theorem State.resetRegisters_txByte : (s.resetRegisters).txByte = s.txByte := rfl
@[simp] theorem State.resetRegisters_evActive : (s.resetRegisters).evActive = s.evActive := rfl
@[simp] theorem State.resetRegisters_evPeriod : (s.resetRegisters).evPeriod = s.evPeriod := rfl
@[simp] theorem State.resetRegisters_evElapsed : (s.resetRegisters).evElapsed = s.evElapsed := rfl
@[simp] theorem State.resetRegisters_conn : (s.resetRegisters).conn = s.conn := rfl
@[simp] theorem State.resetRegisters_events : (s.resetRegisters).events = s.events := rfl
@[simp] theorem State.resetRegisters_peerResults : (s.resetRegisters).peerResults = s.peerResults := rfl
@[simp] theorem State.resetRegisters_script : (s.resetRegisters).script = s.script := rfl
@[simp] theorem State.resetRegisters_acceptDraws : (s.resetRegisters).acceptDraws = s.acceptDraws := rfl
@[simp] theorem State.resetRegisters_drawCount : (s.resetRegisters).drawCount = s.drawCount := rfl

end Sys2Proof.Machine
end

