-- ==== Sys2Proof/Laws/Ops.lean ====
section
/-! SUPPORT. One lemma for each shared operation that says what it can do: the guards, the interrupt, the pushes, the
connection, the reschedule and the soft reset. -/

namespace Sys2Proof.Machine

/-! ## Guards -/

theorem whenLive_live {s : State} (t : State) (h : s.life = .live) : whenLive s t = .next t := by
  simp [whenLive, h]

theorem whenLive_next {s t u : State} (h : whenLive s t = .next u) : s.life = .live ∧ u = t := by
  unfold whenLive at h
  split at h
  · exact ⟨‹_›, by simpa using h.symm⟩
  · cases h

theorem whenAttached_next {s u : State} {effect : Connection → State} (h : whenAttached s effect = .next u) :
    s.life = .live ∧ ∃ c, s.conn = some c ∧ u = effect c := by
  unfold whenAttached at h
  split at h
  · split at h
    · rename_i c hc
      exact ⟨‹_›, c, hc, by simpa using h.symm⟩
    · cases h
  · cases h

/-- Everything `raiseIf` does, as one record (60_exceptions.md R343). -/
theorem State.raiseIf_eq (enabled : Bool) (s : State) :
    s.raiseIf enabled =
      { s with
        intr := s.intr || enabled
        events := s.events ++ if enabled then [.requestInterrupt s.config.irqChannel] else [] } := by
  cases enabled <;> simp [State.raiseIf, State.raiseInterrupt]

/-- Everything the unframed push does, as one record (10_state.md R52). -/
theorem State.pushEvictOldest_eq (b : Byte) (s : State) :
    s.pushEvictOldest b =
      { s with
        fifo := (if s.fifo.length = fifoCap then s.fifo.tail else s.fifo) ++ [b]
        rxFifoOverrun := s.rxFifoOverrun || decide (s.fifo.length = fifoCap) } := by
  unfold State.pushEvictOldest
  split <;> simp_all

/-- Everything the framed push does, as one record (10_state.md R52). -/
theorem State.pushDropNew_eq (b : Byte) (s : State) :
    s.pushDropNew b =
      { s with
        fifo := if s.fifo.length < fifoCap then s.fifo ++ [b] else s.fifo
        rxFifoOverrun := s.rxFifoOverrun || decide (fifoCap ≤ s.fifo.length) } := by
  unfold State.pushDropNew
  split
  · rename_i h
    have : ¬ fifoCap ≤ s.fifo.length := by omega
    simp [this]
  · rename_i h
    have : fifoCap ≤ s.fifo.length := by omega
    simp [this]

/-- A draw lies in its range (44_host_events.md R317). -/
theorem State.acceptCount_le (len : Nat) (s : State) : s.acceptCount len ≤ len := by
  unfold State.acceptCount
  split <;> exact Nat.min_le_right ..

/-- Everything `spendDraw` does, as one record (log 6). -/
theorem State.spendDraw_eq (s : State) :
    s.spendDraw =
      { s with
        acceptDraws := s.acceptDraws.tail
        drawCount := s.drawCount + if s.acceptDraws = [] then 1 else 0 } := by
  rcases h : s.acceptDraws with _ | ⟨k, ks⟩ <;> simp [State.spendDraw, h]

/-- Everything `Conn.Write` does while attached, as one record (R317). -/
theorem State.connWrite_some (bytes : List Byte) {s : State} {c : Connection} (h : s.conn = some c) :
    s.connWrite bytes =
      { s with
        conn := some { c with outbound := c.outbound ++ bytes.take (s.acceptCount bytes.length) }
        events := s.events ++ [.connWrite bytes (s.acceptCount bytes.length)]
        acceptDraws := s.acceptDraws.tail
        drawCount := s.drawCount + if s.acceptDraws = [] then 1 else 0 } := by
  simp [State.connWrite, h, State.spendDraw_eq, State.emit, State.setConn]

/-- What a reschedule is, case by case (41_scheduler.md R203). -/
theorem State.rescheduleIfNeeded_cases (s : State) :
    (s.conn = none ∧ s.rescheduleIfNeeded = { s with evActive := false }) ∨
    (s.conn.isSome ∧ (s.evActive = false ∨ s.schedulePeriod ≠ s.evPeriod) ∧
      s.rescheduleIfNeeded = { s with evActive := true, evPeriod := s.schedulePeriod, evElapsed := 0 }) ∨
    (s.conn.isSome ∧ s.evActive = true ∧ s.schedulePeriod = s.evPeriod ∧ s.rescheduleIfNeeded = s) := by
  rcases hc : s.conn with _ | c
  · exact .inl ⟨rfl, by simp [State.rescheduleIfNeeded, State.connAttached, hc, State.deactivate]⟩
  · by_cases h : s.evActive = false ∨ s.schedulePeriod ≠ s.evPeriod
    · exact .inr (.inl ⟨rfl, h, by
        simp [State.rescheduleIfNeeded, State.connAttached, hc, h, State.deactivate, State.setPeriodAndSchedule]⟩)
    · have h' := not_or.mp h
      exact .inr (.inr ⟨rfl, by simpa using h'.1, by simpa using h'.2, by
        simp [State.rescheduleIfNeeded, State.connAttached, hc, h]⟩)

/-- What every reschedule leaves alone: all but the three schedule fields (R203). -/
theorem State.rescheduleIfNeeded_eq (s : State) :
    s.rescheduleIfNeeded =
      { s with
        evActive := s.rescheduleIfNeeded.evActive
        evPeriod := s.rescheduleIfNeeded.evPeriod
        evElapsed := s.rescheduleIfNeeded.evElapsed } := by
  rcases s.rescheduleIfNeeded_cases with ⟨_, h⟩ | ⟨_, _, h⟩ | ⟨_, _, _, h⟩ <;> rw [h]

/-- After a reschedule the event is active exactly while a connection is attached (R203). -/
theorem State.rescheduleIfNeeded_active (s : State) : s.rescheduleIfNeeded.evActive = s.conn.isSome := by
  rcases s.rescheduleIfNeeded_cases with ⟨hc, h⟩ | ⟨hc, _, h⟩ | ⟨hc, ha, _, h⟩ <;> rw [h] <;> simp_all

/-- After a reschedule an active event has the period just computed (R203). -/
theorem State.rescheduleIfNeeded_period {s : State} (hc : s.conn.isSome = true) :
    s.rescheduleIfNeeded.evPeriod = s.schedulePeriod := by
  rcases s.rescheduleIfNeeded_cases with ⟨h0, h⟩ | ⟨_, _, h⟩ | ⟨_, _, hp, h⟩
  · simp [h0] at hc
  · rw [h]
  · rw [h, hp]

/-- The period a reschedule computes is at least 1 where MAX_SLICE_TICKS is (R203). -/
theorem State.schedulePeriod_pos {s : State} (h : 1 ≤ s.config.maxSliceTicks) : 1 ≤ s.schedulePeriod := by
  unfold State.schedulePeriod
  split <;> omega

end Sys2Proof.Machine
end

