-- ==== Sys2Proof/Laws/Operands.lean ====
section
/-! SUPPORT. Operand forms, the Status word and the Control write, each said once in the terms claims use. -/

namespace Sys2Proof.Machine

/-! ## Values at the register port (20_memory.md R83) -/

theorem lowHalf_eq (v : Word) : lowHalf v = v.setWidth 16 := by
  ext i hi
  simp [lowHalf]

theorem lowByte_eq (v : Word) : lowByte v = v.setWidth 8 := by
  ext i hi
  simp [lowByte]

theorem lowHalf_bit (v : Word) {n : Nat} (hn : n < 16) : (lowHalf v).getLsbD n = v.getLsbD n := by
  simp [lowHalf, hn]

/-! ## Status word (10_state.md R43) -/

theorem statusBit_bit (b : Bool) {place : Nat} (n : Nat) (h : place < 32) :
    (statusBit b place).getLsbD n = (decide (n = place) && b) := by
  simp only [statusBit, BitVec.getLsbD_shiftLeft, BitVec.getLsbD_setWidth, BitVec.getLsbD_ofBool]
  rcases Nat.lt_trichotomy n place with hn | rfl | hn
  · simp [hn, Nat.ne_of_lt hn]
  · simp [h]
  · have h1 : n ≠ place := by omega
    have h2 : n - place ≠ 0 := by omega
    simp [h1, h2]

/-! ## Packing (40_register_port.md R142) -/

/-- P1 and P2 hold of every constrained layout. -/
theorem constrainPack_meets (b0 : Byte) (raw : Word) :
    (constrainPack b0 raw).extractLsb' 24 8 = 0x00#8 ∧ (constrainPack b0 raw).extractLsb' 16 8 &&& b0 = b0 := by
  have mask : ∀ n, (0x00FFFFFF#32).getLsbD n = decide (n < 24) := by
    intro n
    by_cases h : n < 32
    · revert n
      decide
    · rw [BitVec.getLsbD_of_ge _ _ (by omega)]
      simp
      omega
  constructor
  · ext i hi
    simp only [constrainPack, BitVec.getElem_extractLsb', BitVec.getLsbD_or, BitVec.getLsbD_and, mask,
      BitVec.getLsbD_shiftLeft, BitVec.getLsbD_setWidth, BitVec.getLsbD_of_ge b0 (24 + i - 16) (by omega)]
    simp
  · ext i hi
    simp [constrainPack, BitVec.getLsbD_eq_getElem, hi]
    intro h
    exact .inr ⟨by omega, by omega, h⟩

/-! ## Period (41_scheduler.md R201) -/

/-- The multiplier table `[1, 16, 64, 0]`, by the value of MODE (R49). -/
theorem multiplier_cases (mode : Half) :
    (mode.toNat % 4 = 0 ∧ multiplier (reloadFactor mode) = 1) ∨
    (mode.toNat % 4 = 1 ∧ multiplier (reloadFactor mode) = 16) ∨
    (mode.toNat % 4 = 2 ∧ multiplier (reloadFactor mode) = 64) ∨
    (mode.toNat % 4 = 3 ∧ multiplier (reloadFactor mode) = 0) := by
  have h : (reloadFactor mode).toNat = mode.toNat % 4 := by simp [reloadFactor, BitVec.extractLsb'_toNat]
  have h4 : mode.toNat % 4 < 4 := Nat.mod_lt _ (by decide)
  unfold multiplier
  rw [h]
  generalize mode.toNat % 4 = k at h4
  rcases k with _ | _ | _ | _ | k
  · simp
  · simp
  · simp
  · simp
  · omega

/-! ## Control write (R151) -/

/-- When an enable is being cleared, by the two senses (R151, D11). -/
theorem enableCleared_iff (sense : ClearSense) (old new : Bool) :
    enableCleared sense old new = true ↔ new = false ∧ (sense = .level ∨ old = true) := by
  cases sense <;> cases old <;> cases new <;> simp [enableCleared]

theorem State.setCtrl_softReset (v : Half) (s : State) : (s.setCtrl v).softReset = s.softReset := rfl

/-- What a soft reset leaves in the fields a Control write may clear again (70_reset_and_hazards.md R380). -/
theorem State.softReset_cleared (s : State) :
    s.softReset.clearLatches = s.softReset ∧ s.softReset.setFifo [] = s.softReset ∧
      s.softReset.clearSlot = s.softReset := by
  have h : s.softReset =
      { s.resetRegisters with
        evActive := s.softReset.evActive, evPeriod := s.softReset.evPeriod, evElapsed := s.softReset.evElapsed } :=
    s.resetRegisters.rescheduleIfNeeded_eq
  refine ⟨?_, ?_, ?_⟩ <;> (rw [h]; rfl)

/-- A Control write with RESET is a soft reset (R151, R39). -/
theorem State.writeCtrl_reset {v : Half} (s : State) (h : v.getLsbD 6 = true) : s.writeCtrl v = s.softReset := by
  obtain ⟨h1, h2, h3⟩ := s.softReset_cleared
  simp only [State.writeCtrl, h, if_true, State.setCtrl_softReset, h1, ite_self, h2, h3]

/-- A Control write without RESET, as one record (R151). -/
theorem State.writeCtrl_keep {v : Half} (s : State) (h : v.getLsbD 6 = false) :
    s.writeCtrl v =
      { s with
        ctrl := storedCtrl v
        rxParity := s.rxParity && !v.getLsbD 4
        rxFifoOverrun := s.rxFifoOverrun && !v.getLsbD 4
        rxBadStopBit := s.rxBadStopBit && !v.getLsbD 4
        intr := s.intr && !v.getLsbD 4
        fifo := if enableCleared s.config.enableClearSense s.rxEn (v.getLsbD 2) then [] else s.fifo
        txFull := s.txFull && !enableCleared s.config.enableClearSense s.txEn (v.getLsbD 0) } := by
  simp only [State.writeCtrl, h]
  generalize enableCleared s.config.enableClearSense s.rxEn (v.getLsbD 2) = rx
  generalize enableCleared s.config.enableClearSense s.txEn (v.getLsbD 0) = tx
  generalize v.getLsbD 4 = ack
  cases ack <;> cases rx <;> cases tx <;>
    simp [State.setCtrl, State.clearLatches, State.setFifo, State.clearSlot]

end Sys2Proof.Machine
end

