-- ==== Sys2Proof/Laws/PerInstr.lean ====
section
/-! SUPPORT. Families of statements made once per operation. `TableWordDecodes`: the opcode table's word of a
well-formed operation (its descriptor, operands zero) decodes to an operation of the same row. -/

namespace Sys2Proof.Laws.TableWordDecodes

/-- The table word of `i` decodes, to an operation with the same descriptor (30_encoding.md R116). -/
def Statement (i : Instr) : Prop :=
  i.WellFormed → ∃ j, decodeTableWord 8 i.descriptor.toNat = some j ∧ j.descriptor = i.descriptor

theorem unknown_reads (offset : BitVec 4) : registerOffset offset = false →
    decodeTableWord 8 (0b00#2 ++ offset).toNat = some (.rdUnk offset) := by
  revert offset
  decide

theorem unknown_writes (offset : BitVec 4) : registerOffset offset = false →
    decodeTableWord 8 (0b01#2 ++ offset).toNat = some (.wrUnk offset 0#32) := by
  revert offset
  decide

theorem rdData : Statement .rdData := fun _ => ⟨.rdData, by decide, rfl⟩

theorem rdStat : Statement .rdStat := fun _ => ⟨.rdStat, by decide, rfl⟩

theorem rdMode : Statement .rdMode := fun _ => ⟨.rdMode, by decide, rfl⟩

theorem rdCtrl : Statement .rdCtrl := fun _ => ⟨.rdCtrl, by decide, rfl⟩

theorem rdBaud : Statement .rdBaud := fun _ => ⟨.rdBaud, by decide, rfl⟩

theorem rdUnk (offset : BitVec 4) : Statement (.rdUnk offset) := fun h =>
  ⟨.rdUnk offset, unknown_reads offset (by simpa [Instr.WellFormed, Instr.wellFormed] using h), rfl⟩

theorem wrData (value : Word) : Statement (.wrData value) := fun _ =>
  ⟨.wrData 0#32, by show decodeTableWord 8 (0x10#6).toNat = _; decide, rfl⟩

theorem wrStat (value : Word) : Statement (.wrStat value) := fun _ =>
  ⟨.wrStat 0#32, by show decodeTableWord 8 (0x14#6).toNat = _; decide, rfl⟩

theorem wrMode (value : Word) : Statement (.wrMode value) := fun _ =>
  ⟨.wrMode 0#32, by show decodeTableWord 8 (0x18#6).toNat = _; decide, rfl⟩

theorem wrCtrl (value : Word) : Statement (.wrCtrl value) := fun _ =>
  ⟨.wrCtrl 0#32, by show decodeTableWord 8 (0x1A#6).toNat = _; decide, rfl⟩

theorem wrBaud (value : Word) : Statement (.wrBaud value) := fun _ =>
  ⟨.wrBaud 0#32, by show decodeTableWord 8 (0x1E#6).toNat = _; decide, rfl⟩

theorem wrUnk (offset : BitVec 4) (value : Word) : Statement (.wrUnk offset value) := fun h =>
  ⟨.wrUnk offset 0#32, unknown_writes offset (by simpa [Instr.WellFormed, Instr.wellFormed] using h), rfl⟩

theorem tick : Statement .tick := fun _ => ⟨.tick, by decide, rfl⟩

theorem fire : Statement .fire := fun _ => ⟨.fire, by decide, rfl⟩

theorem construct : Statement .construct := fun _ => ⟨.construct, by decide, rfl⟩

theorem shutdown : Statement .shutdown := fun _ => ⟨.shutdown, by decide, rfl⟩

theorem attach : Statement .attach := fun _ => ⟨.attach, by decide, rfl⟩

theorem detach : Statement .detach := fun _ => ⟨.detach, by decide, rfl⟩

theorem save : Statement .save := fun _ => ⟨.save, by decide, rfl⟩

theorem load (image : Image) : Statement (.load image) := fun _ => ⟨.load ⟨0#16, 0#32, 0#16, 0#16⟩, by show decodeTableWord 8 (0x35#6).toNat = _; decide, rfl⟩

theorem linkUp : Statement .linkUp := fun _ => ⟨.linkUp, by decide, rfl⟩

theorem linkDown : Statement .linkDown := fun _ => ⟨.linkDown, by decide, rfl⟩

theorem peerSend (first : Byte) (rest : List Byte) : Statement (.peerSend first rest) := fun _ =>
  ⟨.peerSend 0#8 [], by show decodeTableWord 8 (0x38#6).toNat = _; decide, rfl⟩

theorem peerRecv : Statement .peerRecv := fun _ => ⟨.peerRecv, by decide, rfl⟩

end Sys2Proof.Laws.TableWordDecodes
end

