-- ==== Sys2Proof/Laws/Transfer.lean ====
section
/-! SUPPORT. What a transfer step, a due transfer and an early invocation can do: their records, and the frame every
transfer keeps (41_scheduler.md R208). -/

namespace Sys2Proof.Machine

/-- What no transfer step changes, and in which direction it may move the rest: `t` comes from `s` by transfers.
The elapsed ticks are left out, since the dispatch writes them. -/
structure TransferFrame (s t : State) : Prop where
  life : t.life = s.life
  config : t.config = s.config
  ctrl : t.ctrl = s.ctrl
  rxParity : t.rxParity = s.rxParity
  rxBadStopBit : t.rxBadStopBit = s.rxBadStopBit
  mode : t.mode = s.mode
  baud : t.baud = s.baud
  txByte : t.txByte = s.txByte
  evActive : t.evActive = s.evActive
  evPeriod : t.evPeriod = s.evPeriod
  peerResults : t.peerResults = s.peerResults
  script : t.script = s.script
  attached : t.conn.isSome = s.conn.isSome
  intr_kept : s.intr = true → t.intr = true
  overrun_kept : s.rxFifoOverrun = true → t.rxFifoOverrun = true
  slot_not_filled : t.txFull = true → s.txFull = true
  fifo_le : s.fifo.length ≤ fifoCap → t.fifo.length ≤ fifoCap
  outputs : ∃ es, t.events = s.events ++ es ∧ (t.intr = true → s.intr = true ∨ ∃ e ∈ es, e.isSinkCall = true)

namespace TransferFrame

theorem refl (s : State) : TransferFrame s s := by
  constructor <;> first | exact ⟨[], by simp, fun h => .inl h⟩ | simp

theorem trans {s t u : State} (h : TransferFrame s t) (k : TransferFrame t u) : TransferFrame s u where
  life := k.life.trans h.life
  config := k.config.trans h.config
  ctrl := k.ctrl.trans h.ctrl
  rxParity := k.rxParity.trans h.rxParity
  rxBadStopBit := k.rxBadStopBit.trans h.rxBadStopBit
  mode := k.mode.trans h.mode
  baud := k.baud.trans h.baud
  txByte := k.txByte.trans h.txByte
  evActive := k.evActive.trans h.evActive
  evPeriod := k.evPeriod.trans h.evPeriod
  peerResults := k.peerResults.trans h.peerResults
  script := k.script.trans h.script
  attached := k.attached.trans h.attached
  intr_kept := fun x => k.intr_kept (h.intr_kept x)
  overrun_kept := fun x => k.overrun_kept (h.overrun_kept x)
  slot_not_filled := fun x => h.slot_not_filled (k.slot_not_filled x)
  fifo_le := fun x => k.fifo_le (h.fifo_le x)
  outputs := by
    obtain ⟨es, he, hi⟩ := h.outputs
    obtain ⟨fs, hf, hj⟩ := k.outputs
    refine ⟨es ++ fs, by rw [hf, he, List.append_assoc], fun x => ?_⟩
    rcases hj x with y | ⟨e, he, hs⟩
    · rcases hi y with z | ⟨e, he, hs⟩
      · exact .inl z
      · exact .inr ⟨e, List.mem_append_left _ he, hs⟩
    · exact .inr ⟨e, List.mem_append_right _ he, hs⟩

end TransferFrame

/-! ## Pieces of a step -/

theorem State.setMirrors_frame (dtr cts : Bool) (s : State) : TransferFrame s (s.setMirrors dtr cts) := by
  constructor <;> first | exact ⟨[], by simp, fun h => .inl h⟩ | simp

theorem State.clearSlot_frame (s : State) : TransferFrame s s.clearSlot := by
  constructor <;> first | exact ⟨[], by simp, fun h => .inl h⟩ | simp

theorem State.raiseIf_frame (enabled : Bool) (s : State) : TransferFrame s (s.raiseIf enabled) := by
  rw [State.raiseIf_eq]
  constructor <;> simp_all [Event.isSinkCall]

theorem State.pushEvictOldest_frame (b : Byte) (s : State) : TransferFrame s (s.pushEvictOldest b) := by
  rw [State.pushEvictOldest_eq]
  constructor <;> simp_all
  intro h
  split
  · rename_i h8
    simp [h8, fifoCap]
  · have : s.fifo.length ≠ fifoCap := ‹_›
    omega

theorem State.pushDropNew_frame (b : Byte) (s : State) : TransferFrame s (s.pushDropNew b) := by
  rw [State.pushDropNew_eq]
  constructor <;> simp_all
  intro h
  split
  · simp; omega
  · exact h

theorem State.connRead_frame (maxLen minLen : Nat) (s : State) : TransferFrame s (s.connRead maxLen minLen) := by
  unfold State.connRead
  split
  · rename_i c hc
    split
    · exact .refl s
    · constructor <;> simp_all
  · exact .refl s

theorem State.connWrite_frame (bytes : List Byte) (s : State) : TransferFrame s (s.connWrite bytes) := by
  rcases hc : s.conn with _ | c
  · simp only [State.connWrite, hc]
    exact .refl s
  · rw [State.connWrite_some bytes hc]
    constructor <;> simp_all

theorem State.unframedReceive_frame (s : State) : TransferFrame s s.unframedReceive := by
  unfold State.unframedReceive
  split
  · split
    · exact ((s.connRead_frame 1 1).trans (State.pushEvictOldest_frame _ _)).trans (State.raiseIf_frame _ _)
    · exact s.connRead_frame 1 1
  · exact .refl s

theorem State.unframedTransmit_frame (s : State) : TransferFrame s s.unframedTransmit := by
  unfold State.unframedTransmit
  split
  · exact ((s.connWrite_frame _).trans (State.clearSlot_frame _)).trans (State.raiseIf_frame _ _)
  · exact .refl s

theorem State.takeFrame_frame (flags data : Byte) (s : State) : TransferFrame s (s.takeFrame flags data) := by
  unfold State.takeFrame
  refine TransferFrame.trans ?_ (State.setMirrors_frame _ _ _)
  split
  · exact (s.pushDropNew_frame data).trans (State.raiseIf_frame _ _)
  · exact .refl s

theorem State.drainFrame_frame (s : State) : TransferFrame s s.drainFrame := by
  unfold State.drainFrame
  split
  · exact (s.connRead_frame 2 2).trans (State.takeFrame_frame _ _ _)
  · exact .refl s

theorem iterate_frame {f : State → State} (hf : ∀ s, TransferFrame s (f s)) (n : Nat) (s : State) :
    TransferFrame s (iterate f n s) := by
  induction n generalizing s with
  | zero => exact .refl s
  | succ n ih => exact (hf s).trans (ih (f s))

theorem State.framedTransmit_frame (s : State) : TransferFrame s s.framedTransmit :=
  ((s.clearSlot_frame).trans (State.raiseIf_frame _ _)).trans (State.connWrite_frame _ _)

/-! ## Pieces of a framed step, as records (43_transfer_framed.md R271 to R274) -/

/-- Everything one turn of the drain loop does with a complete frame at the head of the inbound stream (R272, R273). -/
theorem State.drainFrame_some {s : State} {up : Bool} {flags data : Byte} {rest out : List Byte}
    (h : s.conn = some ⟨up, flags :: data :: rest, out⟩) :
    s.drainFrame =
      { s with
        conn := some ⟨up, rest, out⟩
        fifo := if flagHasData flags = true ∧ s.fifo.length < fifoCap then s.fifo ++ [data] else s.fifo
        rxFifoOverrun := s.rxFifoOverrun || (flagHasData flags && decide (fifoCap ≤ s.fifo.length))
        intr := s.intr || (flagHasData flags && s.rxIntEn)
        events := s.events ++
          if flagHasData flags = true ∧ s.rxIntEn = true then [.requestInterrupt s.config.irqChannel] else []
        dtrIn := flagDtr flags
        ctsIn := flagCts flags } := by
  have bytes : s.connReadBytes 2 2 = [flags, data] := by simp [State.connReadBytes, h]
  have after : s.connRead 2 2 = { s with conn := some ⟨up, rest, out⟩ } := by
    simp [State.connRead, h, State.setConn]
  unfold State.drainFrame
  rw [bytes]
  simp only [after, State.takeFrame, State.pushDropNew_eq, State.raiseIf_eq, State.setMirrors, State.rxIntEn]
  rcases flagHasData flags <;> simp

/-- Everything the outgoing frame does while attached (R274). -/
theorem State.framedTransmit_some {s : State} {c : Connection} (h : s.conn = some c) :
    s.framedTransmit =
      { s with
        txFull := false
        intr := s.intr || (s.txFull && s.txIntEn)
        conn := some { c with outbound := c.outbound ++ [s.outFlags, s.outData].take (s.acceptCount 2) }
        events := s.events ++ (if s.txFull && s.txIntEn then [.requestInterrupt s.config.irqChannel] else [])
          ++ [.connWrite [s.outFlags, s.outData] (s.acceptCount 2)]
        acceptDraws := s.acceptDraws.tail
        drawCount := s.drawCount + if s.acceptDraws = [] then 1 else 0 } := by
  unfold State.framedTransmit
  rw [State.connWrite_some (c := c) _ (by rw [State.raiseIf_eq]; exact h), State.raiseIf_eq]
  rfl

/-- With no complete frame the drain does nothing (R271 step 2). -/
theorem State.drainFrames_short {s : State} (h : s.available < 2) : s.drainFrames = s := by
  have : s.available / 2 = 0 := by omega
  rw [State.drainFrames, this]
  rfl

/-! ## Whole steps -/

/-- No transfer step writes what R208 says it does not write. -/
theorem State.transferStep_frame (s : State) : TransferFrame s s.transferStep := by
  unfold State.transferStep
  split
  · unfold State.unframedStep
    split
    · exact ((s.setMirrors_frame _ _).trans (State.unframedReceive_frame _)).trans (State.unframedTransmit_frame _)
    · exact s.setMirrors_frame _ _
  · unfold State.framedStep
    split
    · exact (iterate_frame State.drainFrame_frame _ _).trans (State.framedTransmit_frame _)
    · exact s.setMirrors_frame _ _

theorem State.performDue_frame (s : State) : TransferFrame s s.performDue := by
  refine TransferFrame.trans ?_ (State.transferStep_frame _)
  constructor <;> first | exact ⟨[], by simp, fun h => .inl h⟩ | simp

theorem State.invokeEarly_frame (s : State) : TransferFrame s s.invokeEarly :=
  iterate_frame State.performDue_frame _ _

/-! ## Elapsed ticks (R206, R207) -/

theorem State.raiseIf_evElapsed (enabled : Bool) (s : State) : (s.raiseIf enabled).evElapsed = s.evElapsed := by
  rw [State.raiseIf_eq]

theorem State.connWrite_evElapsed (bytes : List Byte) (s : State) : (s.connWrite bytes).evElapsed = s.evElapsed := by
  rcases hc : s.conn with _ | c
  · simp [State.connWrite, hc]
  · rw [State.connWrite_some bytes hc]

theorem State.connRead_evElapsed (maxLen minLen : Nat) (s : State) :
    (s.connRead maxLen minLen).evElapsed = s.evElapsed := by
  unfold State.connRead
  split
  · split <;> simp
  · rfl

theorem State.drainFrame_evElapsed (s : State) : s.drainFrame.evElapsed = s.evElapsed := by
  unfold State.drainFrame
  split
  · unfold State.takeFrame
    split <;> simp [State.raiseIf_evElapsed, State.pushDropNew_eq, State.connRead_evElapsed]
  · rfl

theorem iterate_evElapsed {f : State → State} (hf : ∀ s, (f s).evElapsed = s.evElapsed) (n : Nat) (s : State) :
    (iterate f n s).evElapsed = s.evElapsed := by
  induction n generalizing s with
  | zero => rfl
  | succ n ih => exact (ih (f s)).trans (hf s)

/-- No transfer step writes the elapsed ticks (R208). -/
theorem State.transferStep_evElapsed (s : State) : s.transferStep.evElapsed = s.evElapsed := by
  unfold State.transferStep
  split
  · unfold State.unframedStep
    split
    · unfold State.unframedTransmit
      have hr : ∀ u : State, u.unframedReceive.evElapsed = u.evElapsed := by
        intro u
        unfold State.unframedReceive
        split
        · split <;> simp [State.raiseIf_evElapsed, State.pushEvictOldest_eq, State.connRead_evElapsed]
        · rfl
      split <;> simp [State.raiseIf_evElapsed, State.connWrite_evElapsed, hr]
    · simp
  · unfold State.framedStep
    split
    · simp [State.framedTransmit, State.connWrite_evElapsed, State.raiseIf_evElapsed, State.drainFrames,
        iterate_evElapsed State.drainFrame_evElapsed]
    · simp

theorem State.performDue_evElapsed (s : State) : s.performDue.evElapsed = s.evElapsed - s.evPeriod := by
  simp [State.performDue, State.transferStep_evElapsed]

/-- Performing one due transfer leaves one fewer due (R204, R206). -/
theorem State.performDue_dueCount {s : State} (ha : s.evActive = true) (hp : 1 ≤ s.evPeriod)
    (hd : s.evPeriod ≤ s.evElapsed) : s.performDue.dueCount + 1 = s.dueCount := by
  have h := s.performDue_frame
  simp only [State.dueCount, h.evActive, h.evPeriod, ha, State.performDue_evElapsed, if_true]
  rw [Nat.div_eq_sub_div (by omega) hd]

end Sys2Proof.Machine
end

