-- ==== Sys2Proof/Tests/Slice0.lean ====
section
/-! SUPPORT. Tests. Every expected value is written out from spec/: the descriptors of 30_encoding.md R112 to R116 and
opcode_table.json, the vectors of 95_test_vectors.md, or a rule named beside the test. After them, for each statement
with hypotheses, a state and operands that meet them. -/

namespace Sys2Proof.Tests

open Sys2Proof.Machine

/-! ## Helpers -/

/-- The outcome is a next state that meets `p`. -/
def nextMeets (p : State → Bool) : Host.Outcome State Fault Refusal → Bool
  | .next t => p t
  | .fault _ => false
  | .refused _ => false

/-- The outcome is this refusal. -/
def refusedWith (r : Refusal) : Host.Outcome State Fault Refusal → Bool
  | .refused r' => r' == r
  | .fault _ => false
  | .next _ => false

theorem nextMeets_next {o : Host.Outcome State Fault Refusal} {p : State → Bool} (h : nextMeets p o = true) :
    ∃ t, o = .next t ∧ p t = true := by
  rcases o with t | r | r
  · exact ⟨t, rfl, h⟩
  · cases h
  · cases h

/-- A configuration with every parameter given (R9), the spec's defaults among them. -/
def config (p : Protocol) : Config := ⟨p, 1000, 8, .peek, .edge, 0x1F801050⟩

/-- The state after CONSTRUCT (95_test_vectors.md L2.1). -/
def fresh (p : Protocol) : State :=
  { State.reset with config := config p, life := .live, baud := 0x00DC#16 }

/-- An established connection with these bytes inbound, the schedule of MODE 0 and BAUD 0xDC (1, 220, 0), and draws that
accept everything. -/
def linked (p : Protocol) (ctrl : Half) (inbound : List Byte) : State :=
  { fresh p with
    ctrl := ctrl, conn := some ⟨true, inbound, []⟩, evActive := true, evPeriod := 220, acceptDraws := [2, 2, 2] }

/-- A full FIFO, 01 to 08 (L1.2). -/
def eight : List Byte := [0x01#8, 0x02#8, 0x03#8, 0x04#8, 0x05#8, 0x06#8, 0x07#8, 0x08#8]

/-- The slot holds this byte. -/
def withSlot (b : Byte) (s : State) : State := { s with txFull := true, txByte := b }

/-- The connection's outbound stream. -/
def sent (s : State) : List Byte := s.conn.elim [] Connection.outbound

/-- The connection's inbound stream. -/
def waiting (s : State) : List Byte := s.conn.elim [] Connection.inbound

/-- How many calls of the interrupt sink the history holds. -/
def sinkCalls (s : State) : Nat := s.events.countP Event.isSinkCall

/-- The last output is a register read with this result. -/
def lastRead (s : State) : Option Word :=
  match s.events.getLast? with
  | some (.readResult v) => some v
  | _ => none

/-! ## Well-formedness: RD_UNK and WR_UNK at a register's offset are ill-formed (R112, R113, R116) -/

theorem test_wellFormed_refuses_rdUnk_at_data : (Instr.rdUnk 0x0#4).wellFormed = false := by decide

theorem test_wellFormed_refuses_rdUnk_at_status : (Instr.rdUnk 0x4#4).wellFormed = false := by decide

theorem test_wellFormed_refuses_rdUnk_at_mode : (Instr.rdUnk 0x8#4).wellFormed = false := by decide

theorem test_wellFormed_refuses_rdUnk_at_control : (Instr.rdUnk 0xA#4).wellFormed = false := by decide

theorem test_wellFormed_refuses_rdUnk_at_baud : (Instr.rdUnk 0xE#4).wellFormed = false := by decide

theorem test_wellFormed_refuses_wrUnk_at_control : (Instr.wrUnk 0xA#4 0x00000000#32).wellFormed = false := by decide

theorem test_wellFormed_refuses_wrUnk_at_baud : (Instr.wrUnk 0xE#4 0xFFFFFFFF#32).wellFormed = false := by decide

theorem test_wellFormed_admits_every_unknown_offset :
    ∀ o ∈ [0x1#4, 0x2#4, 0x3#4, 0x5#4, 0x6#4, 0x7#4, 0x9#4, 0xB#4, 0xC#4, 0xD#4, 0xF#4],
      (Instr.rdUnk o).wellFormed = true ∧ (Instr.wrUnk o 0x00000000#32).wellFormed = true := by decide

/-! ## Decoding: the descriptors of R112 to R116 written out bit by bit, operand bytes as log 1 says -/

theorem test_decode_rdData : decode [0b00000000#8] = .ok (.rdData, []) := by decide

theorem test_decode_rdStat : decode [0b00000100#8] = .ok (.rdStat, []) := by decide

theorem test_decode_rdMode : decode [0b00001000#8] = .ok (.rdMode, []) := by decide

theorem test_decode_rdCtrl : decode [0b00001010#8] = .ok (.rdCtrl, []) := by decide

theorem test_decode_rdBaud : decode [0b00001110#8] = .ok (.rdBaud, []) := by decide

theorem test_decode_rdUnk : decode [0b00000001#8] = .ok (.rdUnk 0x1#4, []) := by decide

theorem test_decode_wrData :
    decode [0b00010000#8, 0x33#8, 0x56#8, 0x34#8, 0x12#8] = .ok (.wrData 0x12345633#32, []) := by decide

theorem test_decode_wrStat :
    decode [0b00010100#8, 0xFF#8, 0xFF#8, 0xFF#8, 0xFF#8] = .ok (.wrStat 0xFFFFFFFF#32, []) := by decide

theorem test_decode_wrMode :
    decode [0b00011000#8, 0x03#8, 0x00#8, 0xCD#8, 0xAB#8] = .ok (.wrMode 0xABCD0003#32, []) := by decide

theorem test_decode_wrCtrl :
    decode [0b00011010#8, 0x05#8, 0x08#8, 0x00#8, 0x00#8] = .ok (.wrCtrl 0x00000805#32, []) := by decide

theorem test_decode_wrBaud :
    decode [0b00011110#8, 0x00#8, 0x00#8, 0x01#8, 0x00#8] = .ok (.wrBaud 0x00010000#32, []) := by decide

theorem test_decode_wrUnk :
    decode [0b00011011#8, 0xFF#8, 0x00#8, 0x00#8, 0x00#8] = .ok (.wrUnk 0xB#4 0x000000FF#32, []) := by decide

theorem test_decode_tick : decode [0b00100000#8] = .ok (.tick, []) := by decide

theorem test_decode_fire : decode [0b00100001#8] = .ok (.fire, []) := by decide

theorem test_decode_construct : decode [0b00110000#8] = .ok (.construct, []) := by decide

theorem test_decode_shutdown : decode [0b00110001#8] = .ok (.shutdown, []) := by decide

theorem test_decode_attach : decode [0b00110010#8] = .ok (.attach, []) := by decide

theorem test_decode_detach : decode [0b00110011#8] = .ok (.detach, []) := by decide

theorem test_decode_save : decode [0b00110100#8] = .ok (.save, []) := by decide

/-- `load 0x0805, 0x00000215, 0x0001, 0x0010` (L2.5). -/
theorem test_decode_load :
    decode [0b00110101#8, 0x05#8, 0x08#8, 0x15#8, 0x02#8, 0x00#8, 0x00#8, 0x01#8, 0x00#8, 0x10#8, 0x00#8] =
      .ok (.load ⟨0x0805#16, 0x00000215#32, 0x0001#16, 0x0010#16⟩, []) := by decide

theorem test_decode_linkUp : decode [0b00110110#8] = .ok (.linkUp, []) := by decide

theorem test_decode_linkDown : decode [0b00110111#8] = .ok (.linkDown, []) := by decide

/-- `peersend 0x03, 0x7F` (L1.8); what follows the operand is left. -/
theorem test_decode_peerSend :
    decode [0b00111000#8, 0x01#8, 0x03#8, 0x00#8, 0x7F#8, 0x39#8] =
      .ok (.peerSend 0x03#8 [0x7F#8], [0x39#8]) := by decide

theorem test_decode_peerRecv : decode [0b00111001#8] = .ok (.peerRecv, []) := by decide

/-- 0x22 to 0x2F and 0x3A to 0x3F are reserved (R114, R115). -/
theorem test_decode_refuses_reserved :
    decode [0b00100010#8] = .error (.reserved 0x22#6) ∧ decode [0b00101111#8] = .error (.reserved 0x2F#6) ∧
      decode [0b00111010#8] = .error (.reserved 0x3A#6) ∧ decode [0b00111111#8] = .error (.reserved 0x3F#6) := by
  decide

theorem test_decode_refuses_cut_operands :
    decode [0x1A#8, 0x05#8] = .error (.badOperand 0x1A#6) ∧ decode [0x38#8] = .error (.badOperand 0x38#6) ∧
      decode [0x40#8] = .error (.notADescriptor 0x40#8) ∧ decode [] = .error .endOfScript := by decide

/-- Words of opcode_table.json: exact rows, and offsets of the default rows. -/
theorem test_decodeTableWord :
    decodeTableWord 8 0x00 = some .rdData ∧ decodeTableWord 8 0x0C = some (.rdUnk 0xC#4) ∧
      decodeTableWord 8 0x1A = some (.wrCtrl 0x00000000#32) ∧
      decodeTableWord 8 0x1F = some (.wrUnk 0xF#4 0x00000000#32) ∧ decodeTableWord 8 0x21 = some .fire ∧
      decodeTableWord 8 0x35 = some (.load ⟨0#16, 0#32, 0#16, 0#16⟩) ∧
      decodeTableWord 8 0x38 = some (.peerSend 0x00#8 []) ∧ decodeTableWord 8 0x2A = none := by decide

/-! ## The step -/

/-- CONSTRUCT is what runs at power-on (R300, R398): it is placed, taken and performed, and nothing is left to do. -/
theorem test_step_runs_construct_from_reset :
    nextMeets (fun t => t.life == .live && t.baud == 0x00DC#16 && t.script.isEmpty)
      (step (State.reset.withFetchWord 8 0x30)) = true := by decide

/-- "`rd 0x04` before `construct` is refused" (L2.5). -/
theorem test_step_refuses_a_read_before_construct :
    refusedWith (.lifecycle .unbuilt) (step (State.reset.withFetchWord 8 0x04)) = true := by decide

theorem test_step_runs_a_placed_read :
    nextMeets (fun t => lastRead t == some 0x00000005#32)
      (step ((fresh .unframed).withFetchWord 8 0x04)) = true := by decide

theorem test_step_refuses_at_the_end_of_the_script :
    refusedWith (.undecodable .endOfScript) (step State.reset) = true := by decide

/-! ## Register port -/

/-- L2.1: a read of one byte, and of the empty FIFO. -/
theorem test_rdData_one_byte :
    nextMeets (fun t => lastRead t == some 0x00FF0000#32 && t.fifo == [0xFF#8])
      (exec .rdData { fresh .unframed with fifo := [0xFF#8] }) = true := by decide

theorem test_rdData_empty :
    nextMeets (fun t => lastRead t == some 0xFFFFFFFF#32) (exec .rdData (fresh .unframed)) = true := by decide

/-- L2.1, L1.9: one due transfer is performed by the Status read. -/
theorem test_rdStat_runs_a_due_transfer :
    nextMeets (fun t => lastRead t == some 0x00000387#32 && t.fifo == [0x41#8] && sinkCalls t == 1 && t.evElapsed == 0)
      (exec .rdStat { linked .unframed 0x0804#16 [0x41#8, 0x42#8] with evElapsed := 220 }) = true := by decide

theorem test_rdStat_after_construct :
    nextMeets (fun t => lastRead t == some 0x00000005#32) (exec .rdStat (fresh .framed)) = true := by decide

theorem test_rdMode :
    nextMeets (fun t => lastRead t == some 0x00000003#32)
      (exec .rdMode { fresh .unframed with mode := 0x0003#16 }) = true := by decide

theorem test_rdCtrl :
    nextMeets (fun t => lastRead t == some 0x00000805#32)
      (exec .rdCtrl (linked .unframed 0x0805#16 [])) = true := by decide

theorem test_rdBaud :
    nextMeets (fun t => lastRead t == some 0x000000DC#32) (exec .rdBaud (fresh .unframed)) = true := by decide

theorem test_rdUnk :
    nextMeets (fun t => lastRead t == some 0xFFFFFFFF#32) (exec (.rdUnk 0xC#4) (fresh .unframed)) = true := by decide

/-- L2.1: a write over a full slot. -/
theorem test_wrData_overwrites :
    nextMeets (fun t => t.txFull && t.txByte == 0x33#8 && t.status == 0x00000000#32)
      (exec (.wrData 0x12345633#32) (withSlot 0x22#8 (fresh .unframed))) = true := by decide

theorem test_wrStat_changes_nothing :
    nextMeets (fun t => t == linked .framed 0x0805#16 [0x10#8])
      (exec (.wrStat 0xFFFFFFFF#32) (linked .framed 0x0805#16 [0x10#8])) = true := by decide

/-- L2.1, P5: the period is not rescheduled. -/
theorem test_wrMode :
    nextMeets (fun t => t.mode == 0x0003#16 && t.evPeriod == 220)
      (exec (.wrMode 0xABCD0003#32) (linked .unframed 0x0000#16 [])) = true := by decide

theorem test_wrBaud :
    nextMeets (fun t => t.baud == 0x0000#16 && t.evPeriod == 220)
      (exec (.wrBaud 0x00010000#32) (linked .unframed 0x0000#16 [])) = true := by decide

/-- L2.1, the row 0x0805, 0x12340815: stored whole but for ACK, nothing cleared but the latches. -/
theorem test_wrCtrl_acknowledges :
    nextMeets (fun t => t.ctrl == 0x0805#16 && t.fifo == [0xAA#8] && t.txFull && !t.intr && !t.rxFifoOverrun)
      (exec (.wrCtrl 0x12340815#32)
        (withSlot 0x22#8
          { linked .unframed 0x0805#16 [] with fifo := [0xAA#8], intr := true, rxFifoOverrun := true })) = true := by
  decide

/-- L2.1, the row 0x0005, 0x0001 under EDGE: only the FIFO is emptied. -/
theorem test_wrCtrl_clears_receive :
    nextMeets (fun t => t.ctrl == 0x0001#16 && t.fifo == [] && t.txFull && t.intr)
      (exec (.wrCtrl 0x00000001#32)
        (withSlot 0x22#8 { linked .unframed 0x0005#16 [] with fifo := [0xAA#8], intr := true })) = true := by decide

theorem test_wrUnk_changes_nothing :
    nextMeets (fun t => t == linked .framed 0x0805#16 [])
      (exec (.wrUnk 0xB#4 0x000000FF#32) (linked .framed 0x0805#16 [])) = true := by decide

/-! ## Scheduler and transfers -/

/-- L2.2: an inactive event counts no ticks. -/
theorem test_tick_inactive :
    nextMeets (fun t => t.evElapsed == 7) (exec .tick { fresh .unframed with evElapsed := 7 }) = true := by decide

theorem test_tick_active :
    nextMeets (fun t => t.evElapsed == 220)
      (exec .tick { linked .unframed 0x0000#16 [] with evElapsed := 219 }) = true := by decide

/-- L2.2: the phase is kept; L2.3, first row: both directions, two interrupts. -/
theorem test_fire_unframed :
    nextMeets (fun t => t.evElapsed == 280 && t.fifo == [0x10#8] && sent t == [0x77#8] && !t.txFull && sinkCalls t == 2
        && t.dtrIn && t.ctsIn)
      (exec .fire (withSlot 0x77#8 { linked .unframed 0x0C05#16 [0x10#8] with evElapsed := 500 })) = true := by decide

/-- L2.4: two data frames and an odd byte; the mirrors of the last frame; out [04 00]. -/
theorem test_fire_framed :
    nextMeets (fun t => t.fifo == [0x11#8, 0x22#8] && !t.dtrIn && t.ctsIn && waiting t == [0x01#8]
        && sent t == [0x04#8, 0x00#8])
      (exec .fire
        { linked .framed 0x0000#16 [0x03#8, 0x11#8, 0x05#8, 0x22#8, 0x01#8] with evElapsed := 220 }) = true := by decide

/-- L2.3, fourth row. -/
theorem test_unframed_overrun_evicts_the_oldest :
    let t := State.transferStep { linked .unframed 0x0004#16 [0x09#8] with fifo := eight }
    t.fifo = [0x02#8, 0x03#8, 0x04#8, 0x05#8, 0x06#8, 0x07#8, 0x08#8, 0x09#8] ∧ t.rxFifoOverrun = true := by decide

/-- L2.3, fifth row: a write that accepts nothing. -/
theorem test_unframed_short_write_loses_the_byte :
    let t := State.transferStep (withSlot 0x11#8 { linked .unframed 0x0401#16 [] with acceptDraws := [0] })
    sent t = [] ∧ t.txFull = false ∧ sinkCalls t = 1 := by decide

/-- L2.4, sixth row. -/
theorem test_framed_overrun_drops_the_new_byte :
    let t := State.transferStep { linked .framed 0x0800#16 [0x01#8, 0x42#8] with fifo := eight }
    t.fifo = eight ∧ t.rxFifoOverrun = true ∧ sinkCalls t = 1 ∧ sent t = [0x00#8, 0x00#8] := by decide

/-- L2.4, ninth row: a write that accepts one byte of the frame. -/
theorem test_framed_short_write :
    let t := State.transferStep (withSlot 0x7E#8 { linked .framed 0x0400#16 [] with acceptDraws := [1] })
    sent t = [0x05#8] ∧ t.txFull = false ∧ sinkCalls t = 1 := by decide

/-- The table of L2.2, at its ends. -/
theorem test_ticksBetweenTransfers :
    ticksBetweenTransfers 0x0000#16 0x0001#16 = 1 ∧ ticksBetweenTransfers 0x0000#16 0x0005#16 = 4 ∧
      ticksBetweenTransfers 0x0001#16 0x00DC#16 = 3520 ∧ ticksBetweenTransfers 0x0002#16 0xFFFF#16 = 4194240 ∧
      ticksBetweenTransfers 0x0003#16 0xFFFF#16 = 0 := by decide

/-! ## Host events and the connection (L2.5, L2.7) -/

theorem test_construct_save_image :
    nextMeets (fun t => t.events == [.saveImage ⟨0x0000#16, 0x00000005#32, 0x0000#16, 0x00DC#16⟩])
      (exec .save (fresh .unframed)) = true := by decide

theorem test_construct_twice_is_refused :
    refusedWith (.lifecycle .live) (exec .construct (fresh .unframed)) = true := by decide

theorem test_construct :
    nextMeets (fun t => t.life == .live && t.status == 0x00000005#32 && t.baud == 0x00DC#16 && !t.evActive)
      (exec .construct State.reset) = true := by decide

theorem test_shutdown :
    nextMeets (fun t => t.life == .dead && t.conn == none && !t.evActive)
      (exec .shutdown (linked .unframed 0x0805#16 [0x10#8])) = true := by decide

theorem test_attach :
    nextMeets (fun t => t.evActive && t.evPeriod == 220 && t.evElapsed == 0 && t.conn == some ⟨false, [], []⟩)
      (exec .attach (fresh .unframed)) = true := by decide

theorem test_attach_twice_is_refused :
    refusedWith .alreadyAttached (exec .attach (linked .unframed 0x0000#16 [])) = true := by decide

theorem test_detach :
    nextMeets (fun t => !t.evActive && t.evPeriod == 220 && t.evElapsed == 100 && t.conn == none)
      (exec .detach { linked .unframed 0x0000#16 [] with evElapsed := 100 }) = true := by decide

theorem test_detach_unattached_is_refused :
    refusedWith .notAttached (exec .detach (fresh .unframed)) = true := by decide

theorem test_load :
    nextMeets (fun t => t.ctrl == 0x0805#16 && t.status == 0x00000215#32 && t.mode == 0x0001#16 && t.baud == 0x0010#16
        && t.evPeriod == 256 && t.evElapsed == 0 && sinkCalls t == 0)
      (exec (.load ⟨0x0805#16, 0x00000215#32, 0x0001#16, 0x0010#16⟩)
        (withSlot 0x22#8 (linked .unframed 0x0000#16 []))) = true := by decide

theorem test_load_ignores_reserved_bits :
    nextMeets (fun t => t.ctrl == 0xFFAF#16 && t.status == 0x000003BD#32 && t.evPeriod == 1000 && t.fifo == []
        && !t.txFull)
      (exec (.load ⟨0xFFFF#16, 0xFFFFFFFF#32, 0x0003#16, 0x0000#16⟩)
        (withSlot 0x22#8 (linked .framed 0x0000#16 []))) = true := by decide

theorem test_linkUp :
    nextMeets (fun t => t.conn == some ⟨true, [0x10#8], [0x20#8]⟩)
      (exec .linkUp { linked .unframed 0x0000#16 [] with conn := some ⟨false, [0x10#8], [0x20#8]⟩ }) = true := by decide

theorem test_linkDown :
    nextMeets (fun t => t.conn == some ⟨false, [0x10#8], []⟩ && t.dtrIn)
      (exec .linkDown { linked .unframed 0x0000#16 [0x10#8] with dtrIn := true }) = true := by decide

theorem test_peerSend :
    nextMeets (fun t => waiting t == [0x10#8, 0x03#8, 0x7F#8])
      (exec (.peerSend 0x03#8 [0x7F#8]) (linked .unframed 0x0000#16 [0x10#8])) = true := by decide

theorem test_peerRecv :
    nextMeets (fun t => t.peerResults == [[0x06#8, 0x00#8]] && sent t == [])
      (exec .peerRecv { linked .framed 0x0000#16 [] with conn := some ⟨true, [], [0x06#8, 0x00#8]⟩ }) = true := by decide

/-- L2.7: a reset keeps the phase where the period stays 220, and loses it where the period changes. -/
theorem test_wrCtrl_reset_phase :
    nextMeets (fun t => t.evPeriod == 220 && t.evElapsed == 100 && t.mode == 0x0000#16 && t.baud == 0x00DC#16)
        (exec (.wrCtrl 0x00000040#32)
          { linked .unframed 0x0000#16 [] with mode := 0x0001#16, baud := 0x0010#16, evElapsed := 100 }) = true ∧
      nextMeets (fun t => t.evPeriod == 220 && t.evElapsed == 0)
        (exec (.wrCtrl 0x00000040#32)
          { linked .unframed 0x0000#16 [] with evPeriod := 256, evElapsed := 100 }) = true := by decide

/-! ## Witnesses: for each statement with hypotheses, states and operands that meet them, one for each clause and at the
ends of its ranges. A statement that only asks for LIFE = LIVE has `witness_live`. -/

theorem witness_live (p : Protocol) : (fresh p).life = .live ∧ (linked p 0x0805#16 []).life = .live := ⟨rfl, rfl⟩

theorem fresh_inv (p : Protocol) : (fresh p).Inv where
  fifo_le := Nat.zero_le _
  period_pos := by intro h; cases h
  strobes_zero := show 0x0000#16 &&& 0x0050#16 = 0x0000#16 by decide
  active_iff_attached := rfl
  attached_live := by intro h; cases h
  slice_pos := by show 1 ≤ 1000; omega

/-- An invariant state with an established connection, a full FIFO, two transfers due and one part of a period. -/
theorem linked_inv (p : Protocol) (inbound : List Byte) :
    State.Inv { linked p 0xFFAF#16 inbound with fifo := eight, evElapsed := 500 } where
  fifo_le := Nat.le_refl 8
  period_pos := by intro _; show 1 ≤ 220; omega
  strobes_zero := show 0xFFAF#16 &&& 0x0050#16 = 0x0000#16 by decide
  active_iff_attached := rfl
  attached_live := fun _ => rfl
  slice_pos := by show 1 ≤ 1000; omega

theorem witness_DecodeReturnsTheEncodedOperation :
    (Instr.rdUnk 0xF#4).WellFormed ∧ (Instr.wrUnk 0x1#4 0xFFFFFFFF#32).WellFormed ∧
      (Instr.load ⟨0xFFFF#16, 0xFFFFFFFF#32, 0x0000#16, 0x00DC#16⟩).WellFormed ∧
      (Instr.peerSend 0x01#8 [0x00#8, 0xFF#8]).WellFormed := by decide

theorem witness_DecodedBytesAreAnEncoding :
    decode [0x38#8, 0x01#8, 0x00#8, 0x00#8, 0xFF#8, 0x30#8] = .ok (.peerSend 0x00#8 [0xFF#8], [0x30#8]) := by decide

theorem witness_UnknownOffsetsDecodeAndReservedDescriptorsAreRefused :
    registerOffset 0x1#4 = false ∧ registerOffset 0xF#4 = false ∧ 0x2 ≤ (0x2#4).toNat ∧ 0x2 ≤ (0xF#4).toNat ∧
      0xA ≤ (0xA#4).toNat ∧ 0xA ≤ (0xF#4).toNat := by decide

theorem witness_StepPerformsTheDecodedOperation :
    decode (State.script { fresh .unframed with script := [0x32#8, 0x36#8] }) = .ok (.attach, [0x36#8]) ∧
      decode (State.script { fresh .unframed with script := [0x22#8] }) = .error (.reserved 0x22#6) := by decide

theorem witness_StepAfterPlacingATableWordPerformsIt :
    decodeTableWord 8 0x30 = some .construct ∧ decodeTableWord 8 0x35 = some (.load ⟨0#16, 0#32, 0#16, 0#16⟩) := by
  decide

theorem witness_OperationsOutsideTheirLifecycleAreRefused :
    Instr.rdStat ≠ .construct ∧ State.reset.life ≠ .live ∧
      State.life { fresh .unframed with life := .dead } ≠ .live ∧ (fresh .unframed).life ≠ .unbuilt := by decide

theorem witness_AttachmentRequirementsAreRefusedByName :
    (linked .framed 0x0000#16 []).life = .live ∧ (linked .framed 0x0000#16 []).conn.isSome = true ∧
      (fresh .framed).life = .live ∧ (fresh .framed).conn = none := by decide

/-- One operation of each requirement, admitted and not. -/
theorem witness_OperationsCompleteOrAreRefusedByTheirRequirement :
    (State.reset.Admits .construct ∧ (fresh .unframed).Admits .attach ∧ (fresh .unframed).Admits .fire ∧
      (linked .unframed 0x0000#16 []).Admits .peerRecv) ∧
    (¬ (fresh .unframed).Admits .construct ∧ ¬ (linked .unframed 0x0000#16 []).Admits .attach ∧
      ¬ State.reset.Admits .rdData ∧ ¬ (fresh .unframed).Admits .linkUp) := by
  refine ⟨⟨rfl, ⟨rfl, rfl⟩, rfl, ⟨rfl, rfl⟩⟩, ?_, ?_, ?_, ?_⟩
  · exact fun h => absurd (show Life.live = .unbuilt from h) (by decide)
  · exact fun h => absurd (show (linked .unframed 0x0000#16 []).conn = none from h.2) (by decide)
  · exact fun h => absurd (show Life.unbuilt = .live from h) (by decide)
  · exact fun h => absurd (show (none : Option Connection).isSome = true from h.2) (by decide)

theorem witness_ReadsOfControlAndBaudReturnTheRegister : (fresh .framed).life = .live ∧ (fresh .framed).Inv :=
  ⟨rfl, fresh_inv _⟩

/-- The FIFO after the early invocation is empty in the one state and not in the other; in both a transfer is due. -/
theorem witness_DataReadPacksTheFirstBytes :
    (State.invokeEarly { linked .unframed 0x0004#16 [] with evElapsed := 220 }).fifo = [] ∧
      (State.invokeEarly { linked .unframed 0x0004#16 [0x41#8] with evElapsed := 220 }).fifo ≠ [] := by decide

theorem witness_PackingMeetsItsConstraints :
    ([] : List Byte).length ≤ 3 ∧ [0x01#8, 0x02#8, 0x03#8].length ≤ 3 := by decide

theorem witness_ControlWriteWithoutReset :
    (0xFFFFFFBF#32).getLsbD 6 = false ∧ (0x00000000#32).getLsbD 6 = false := by decide

theorem witness_ControlWriteWithResetIsASoftReset : (0x00000040#32).getLsbD 6 = true := by decide

theorem witness_SoftResetSchedulesTheResetPeriod :
    (linked .unframed 0x0000#16 []).conn.isSome = true ∧ (fresh .unframed).conn = none := by decide

theorem witness_TicksBetweenTransfersIsTheEvenProduct :
    (0x0000#16).toNat % 4 = 0 ∧ (0x0001#16).toNat % 4 = 1 ∧ (0xFFFE#16).toNat % 4 = 2 ∧ (0xFFFF#16).toNat % 4 = 3 := by
  decide

theorem witness_PeriodIsEvenOrTheMultiplier :
    1 ≤ (0x0001#16).toNat ∧ 1 ≤ (0xFFFF#16).toNat ∧ (0x0000#16).toNat % 4 ≠ 3 ∧ (0x0002#16).toNat % 4 ≠ 3 := by decide

theorem witness_RescheduleKeepsOrRestartsTheEvent :
    (if ticksBetweenTransfers (0x0003#16) (0x00DC#16) = 0 then (config .unframed).maxSliceTicks
        else ticksBetweenTransfers (0x0003#16) (0x00DC#16)) = 1000 ∧
      (if ticksBetweenTransfers (0x0001#16) (0x0010#16) = 0 then (config .unframed).maxSliceTicks
        else ticksBetweenTransfers (0x0001#16) (0x0010#16)) = 256 := by decide

/-- A transfer due exactly now, and one tick before. -/
theorem witness_FirePerformsOneDueTransfer :
    (∃ s : State, s.life = .live ∧ s.evActive = true ∧ s.evPeriod ≤ s.evElapsed) ∧
      ∃ s : State, s.life = .live ∧ ¬ (s.evActive = true ∧ s.evPeriod ≤ s.evElapsed) :=
  ⟨⟨{ linked .unframed 0x0000#16 [] with evElapsed := 220 }, by decide⟩,
    ⟨{ linked .unframed 0x0000#16 [] with evElapsed := 219 }, by decide⟩⟩

theorem witness_EarlyInvocationIsTheDueLoop :
    ∃ s : State, s.Inv ∧ s.evActive = true ∧ s.evPeriod ≤ s.evElapsed := ⟨_, linked_inv .framed [], by decide⟩

theorem witness_EarlyInvocationIsIdempotent : ∃ s : State, s.Inv ∧ s.evElapsed % s.evPeriod = 60 :=
  ⟨_, linked_inv .unframed [], by decide⟩

theorem witness_StepWithoutLinkOnlyClearsTheMirrors :
    (∀ c, (fresh .framed).conn = some c → c.up = false) ∧
      ∀ c, State.conn { linked .unframed 0x0005#16 [] with conn := some ⟨false, [0x10#8], []⟩ } = some c → c.up = false := by
  constructor
  · intro c h
    cases h
  · intro c h
    cases h
    rfl

theorem witness_UnframedStepReceivesThenSends (inbound : List Byte) :
    let s := linked .unframed 0x0C05#16 inbound
    s.config.protocol = .unframed ∧ s.conn = some ⟨true, inbound, []⟩ := ⟨rfl, rfl⟩

theorem witness_OverrunPoliciesStayDistinct : eight.length = 8 ∧ eight.tail.length < 8 ∧ eight.length ≤ 8 := by decide

/-- For the five statements about a framed step: an empty FIFO and a full one, any inbound stream. -/
theorem witness_framed_step (inbound : List Byte) :
    let s := linked .framed 0x0C02#16 inbound
    s.config.protocol = .framed ∧ s.conn = some ⟨true, inbound, []⟩ ∧ s.fifo.length ≤ 8 ∧
      State.fifo { s with fifo := eight } = eight ∧ eight.length ≤ 8 := ⟨rfl, rfl, Nat.zero_le _, rfl, by decide⟩

theorem witness_FramedMirrorsFollowTheLastFrame :
    (inboundFrames [0x03#8, 0x11#8, 0x05#8, 0x22#8, 0x01#8]).getLast? = some (0x05#8, 0x22#8) ∧
      inboundFrames [0x01#8] = [] ∧ inboundFrames [] = [] := by decide

theorem witness_FramedStepReadsOnlyThreeControlBits :
    (linked .framed 0x0802#16 []).config.protocol = .framed ∧ (0x0807#16).getLsbD 1 = (0x0802#16).getLsbD 1 ∧
      (0x0807#16).getLsbD 10 = (0x0802#16).getLsbD 10 ∧ (0x0807#16).getLsbD 11 = (0x0802#16).getLsbD 11 := by decide

/-- ACK clears the latch, a LOAD clears it, a LOAD sets it, and a transfer sets it with a call of the sink. -/
theorem witness_InterruptLatchPersistsUntilAcknowledged :
    (∃ s t : State, exec (.wrCtrl 0x00000010#32) s = .next t ∧ s.intr = true ∧ t.intr = false) ∧
    (∃ s t : State, exec (.load ⟨0#16, 0#32, 0#16, 0#16⟩) s = .next t ∧ s.intr = true ∧ t.intr = false) ∧
    (∃ s t : State, exec (.load ⟨0#16, 0x00000200#32, 0#16, 0#16⟩) s = .next t ∧ s.intr = false ∧ t.intr = true) ∧
    ∃ s t : State, exec .fire s = .next t ∧ s.intr = false ∧ t.intr = true := by
  refine ⟨⟨{ fresh .unframed with intr := true }, ?_⟩, ⟨{ fresh .unframed with intr := true }, ?_⟩,
    ⟨fresh .unframed, ?_⟩, { linked .unframed 0x0804#16 [0x41#8] with evElapsed := 220 }, ?_⟩
  · obtain ⟨t, h, hp⟩ := nextMeets_next
      (o := exec (.wrCtrl 0x00000010#32) { fresh .unframed with intr := true }) (p := fun t => !t.intr) (by decide)
    exact ⟨t, h, rfl, by simpa using hp⟩
  · obtain ⟨t, h, hp⟩ := nextMeets_next
      (o := exec (.load ⟨0#16, 0#32, 0#16, 0#16⟩) { fresh .unframed with intr := true }) (p := fun t => !t.intr)
      (by decide)
    exact ⟨t, h, rfl, by simpa using hp⟩
  · obtain ⟨t, h, hp⟩ := nextMeets_next
      (o := exec (.load ⟨0#16, 0x00000200#32, 0#16, 0#16⟩) (fresh .unframed)) (p := State.intr) (by decide)
    exact ⟨t, h, rfl, hp⟩
  · obtain ⟨t, h, hp⟩ := nextMeets_next
      (o := exec .fire { linked .unframed 0x0804#16 [0x41#8] with evElapsed := 220 }) (p := State.intr) (by decide)
    exact ⟨t, h, rfl, hp⟩

theorem witness_OnlyTransfersCallTheSink :
    ∃ t, exec .tick (fresh .unframed) = .next t ∧ Instr.tick ≠ .fire ∧ Instr.tick ≠ .rdData ∧ Instr.tick ≠ .rdStat ∧
      ∀ v, Instr.tick ≠ .wrData v := by
  obtain ⟨t, h, _⟩ := nextMeets_next (o := exec .tick (fresh .unframed)) (p := fun _ => true) (by decide)
  exact ⟨t, h, by decide, by decide, by decide, fun _ h => by cases h⟩

/-- All four ways a period changes. -/
theorem witness_PeriodChangesOnlyByReschedule :
    nextMeets (fun t => t.evPeriod != 256)
        (exec (.wrCtrl 0x00000040#32) { linked .unframed 0x0000#16 [] with evPeriod := 256 }) = true ∧
      nextMeets (fun t => t.evPeriod != 220)
        (exec (.load ⟨0x0000#16, 0x00000000#32, 0x0001#16, 0x0010#16⟩) (linked .unframed 0x0000#16 [])) = true ∧
      nextMeets (fun t => t.evPeriod != 0) (exec .attach (fresh .unframed)) = true ∧
      nextMeets (fun t => t.evPeriod != 1) (exec .construct { State.reset with evPeriod := 1 }) = true := by decide

/-- A writer of each register, and a LOAD that sets each of the two latches. -/
theorem witness_RegistersChangeOnlyByTheirWriters :
    nextMeets (fun t => t.ctrl != 0x0000#16) (exec (.wrCtrl 0x00000805#32) (fresh .unframed)) = true ∧
      nextMeets (fun t => t.mode != 0x0000#16) (exec (.wrMode 0x00000003#32) (fresh .unframed)) = true ∧
      nextMeets (fun t => t.baud != 0x00DC#16) (exec (.wrBaud 0x0000FFFF#32) (fresh .unframed)) = true ∧
      nextMeets (fun t => t.rxParity && t.rxBadStopBit)
        (exec (.load ⟨0x0000#16, 0x00000028#32, 0x0000#16, 0x00DC#16⟩) (fresh .unframed)) = true := by decide

theorem witness_OperationsThatTransferKeepTheRest :
    nextMeets (fun t => t.txByte != 0x00#8 && t.intr && t.rxFifoOverrun)
      (exec (.wrData 0x00000041#32)
        { linked .framed 0x0800#16 [0x01#8, 0x42#8] with
          fifo := eight, evElapsed := 440, intr := true, rxFifoOverrun := true }) = true := by decide

theorem witness_StepKeepsTheInvariant :
    ∃ s t : State, s.Inv ∧ step s = .next t := by
  refine ⟨{ fresh .framed with script := [0x32#8] }, ?_⟩
  obtain ⟨t, h, _⟩ := nextMeets_next (o := step { fresh .framed with script := [0x32#8] }) (p := fun _ => true)
    (by decide)
  refine ⟨t, ?_, h⟩
  constructor
  · decide
  · intro h; cases h
  · decide
  · rfl
  · intro h; cases h
  · show 1 ≤ 1000; omega

/-- For the statements about any operation that completes: one that adds an output and one that adds a result. -/
theorem witness_any_operation_completes :
    nextMeets (fun t => t.events.length == 1) (exec .save (fresh .framed)) = true ∧
      nextMeets (fun t => t.peerResults.length == 1) (exec .peerRecv (linked .framed 0x0000#16 [])) = true := by decide

/-- The Status read shows TXRDY where the slot is emptied by the due transfer, and not where it stays full. -/
theorem witness_DataWriteAfterReadyStatusLosesNothing :
    (∃ s : State, s.Inv ∧ s.life = .live ∧ s.evActive = true) ∧
      nextMeets (fun t => (lastRead t).any (fun word => word.getLsbD 0))
        (exec .rdStat (withSlot 0x41#8 { linked .unframed 0x0001#16 [] with evElapsed := 220 })) = true ∧
      nextMeets (fun t => (lastRead t).any (fun word => !word.getLsbD 0))
        (exec .rdStat (withSlot 0x41#8 (linked .unframed 0x0001#16 []))) = true :=
  ⟨⟨_, linked_inv .unframed [], rfl, rfl⟩, by decide, by decide⟩

theorem witness_ConnectionReadsAndWritesInOrder :
    (linked .framed 0x0000#16 [0x01#8]).conn = some ⟨true, [0x01#8], []⟩ ∧ [0x01#8].length < 2 ∧ 1 ≤ [0x01#8].length ∧
      0 ≤ [0x06#8, 0x00#8].length ∧ 2 ≤ [0x06#8, 0x00#8].length ∧
      (linked .framed 0x0000#16 [0x01#8]).acceptDraws = 2 :: [2, 2] := by decide

theorem witness_ConstructYieldsTheResetState : State.reset.life = .unbuilt := rfl

theorem witness_AttachSchedulesAndDetachDeactivates :
    ((fresh .unframed).Inv ∧ (fresh .unframed).life = .live ∧ (fresh .unframed).conn = none) ∧
      ∃ s : State, s.Inv ∧ s.life = .live ∧ s.conn.isSome = true :=
  ⟨⟨fresh_inv _, rfl, rfl⟩, _, linked_inv .unframed [], rfl, rfl⟩

theorem witness_SaveThenLoadRestoresTheRegisters :
    ∃ s u : State, s.Inv ∧ s.life = .live ∧ u.life = .live ∧ s.ctrl ≠ u.ctrl :=
  ⟨_, fresh .framed, linked_inv .unframed [0x10#8], rfl, rfl, by decide⟩

theorem witness_ConnectionEventsMoveBytesInOrder :
    (linked .unframed 0x0000#16 [0x10#8]).life = .live ∧
      (linked .unframed 0x0000#16 [0x10#8]).conn = some ⟨true, [0x10#8], []⟩ := by decide

/-- The first and the last address of the window, and the addresses next to it. -/
theorem witness_WindowIsSixteenAddressesFromItsBase :
    windowOffset (config .unframed) 0x1F801050 = some 0x0#4 ∧ windowOffset (config .unframed) 0x1F80105F = some 0xF#4 ∧
      windowOffset (config .unframed) 0x1F80104F = none ∧ windowOffset (config .unframed) 0x1F801060 = none := by decide

end Sys2Proof.Tests
end

section
/-! PROOFS. The register port (40_register_port.md): the Control and BaudRate reads, the BaudRate write and the Status
read, each as the exact next state. -/

namespace Sys2Proof.Machine

variable {s : State}

/-! ## What the accesses do while LIVE (R140) -/

theorem exec_rdCtrl_live (h : s.life = .live) :
    exec .rdCtrl s = .next (s.emit (.readResult (s.ctrl.setWidth 32))) :=
  whenLive_live _ h

theorem exec_rdBaud_live (h : s.life = .live) :
    exec .rdBaud s = .next (s.emit (.readResult (s.baud.setWidth 32))) :=
  whenLive_live _ h

theorem exec_rdStat_live (h : s.life = .live) :
    exec .rdStat s = .next (s.invokeEarly.emit (.readResult s.invokeEarly.status)) :=
  whenLive_live _ h

theorem exec_wrBaud_live (value : Word) (h : s.life = .live) :
    exec (.wrBaud value) s = .next { s with baud := value.setWidth 16 } := by
  rw [← lowHalf_eq]
  exact whenLive_live _ h

/-! ## The strobes of Control (10_state.md R32) -/

/-- The clause of the invariant about RESET and ACK, read bit by bit. -/
theorem State.Inv.ctrl_strobe_bit (hinv : s.Inv) {n : Nat} (hn : (0x0050#16).getLsbD n = true) :
    s.ctrl.getLsbD n = false := by
  have hbit := congrArg (fun v => v.getLsbD n) hinv.strobes_zero
  simpa [BitVec.getLsbD_and, hn] using hbit

/-- A Control read shows both strobes as 0: widening keeps the bits of the register. -/
theorem State.Inv.ctrl_read_strobe_bit (hinv : s.Inv) {n : Nat} (hn : (0x0050#16).getLsbD n = true) :
    (s.ctrl.setWidth 32).getLsbD n = false := by
  rw [BitVec.getLsbD_setWidth, hinv.ctrl_strobe_bit hn, Bool.and_false]

end Sys2Proof.Machine

namespace Sys2Proof.Proofs

open Sys2Proof Sys2Proof.Machine

/-- Settles O10: both reads only record the widened register, and the invariant keeps the strobes of Control at 0. -/
theorem readsOfControlAndBaudReturnTheRegister : Obligations.ReadsOfControlAndBaudReturnTheRegister := by
  refine ⟨rfl, rfl, fun s hlive => ⟨exec_rdCtrl_live hlive, exec_rdBaud_live hlive, fun hinv => ⟨?_, ?_⟩⟩⟩
  · exact hinv.ctrl_read_strobe_bit (by decide)
  · exact hinv.ctrl_read_strobe_bit (by decide)

/-- Settles O12: the write is the update of BAUD by the narrowed value, with no reschedule after it. -/
theorem baudWriteStoresSixteenBitsOnly : Obligations.BaudWriteStoresSixteenBitsOnly :=
  fun _ value hlive => ⟨rfl, exec_wrBaud_live value hlive⟩

/-- Settles O15: the read records the Status word of the state after the early invocation and writes nothing else. -/
theorem statusReadReturnsStatusAfterEarlyInvocation : Obligations.StatusReadReturnsStatusAfterEarlyInvocation :=
  ⟨rfl, fun _ hlive => exec_rdStat_live hlive⟩

end Sys2Proof.Proofs
end

section
/-! PROOFS. The scheduler (41_scheduler.md): the period as the even product (R201), and the one protocol step a transfer
step is, with what it leaves alone and how often it calls `Conn.Write` (R208). -/

namespace Sys2Proof.Machine

/-! ## Period (R201) -/

theorem ticksBetweenTransfers_of_multiplier {mode : Half} {m : Nat} (baud : Half)
    (h : multiplier (reloadFactor mode) = m) :
    ticksBetweenTransfers mode baud = max (baud.toNat * m / 2 * 2) m := by
  rw [ticksBetweenTransfers, h]

/-- The multiplier is at most 64 and BAUD has 16 bits, so 22 bits hold the period. -/
theorem ticksBetweenTransfers_lt (mode baud : Half) : ticksBetweenTransfers mode baud < 2 ^ 22 := by
  have hbaud := baud.isLt
  rcases multiplier_cases mode with ⟨_, hm⟩ | ⟨_, hm⟩ | ⟨_, hm⟩ | ⟨_, hm⟩ <;>
    (rw [ticksBetweenTransfers_of_multiplier baud hm]; omega)

/-! ## Calls of `Conn.Write` in the record of the run (44_host_events.md R317) -/

/-- How many calls of `Conn.Write` the history records. -/
def State.connWrites (s : State) : Nat := s.events.countP Event.isConnWrite

variable (s : State)

@[simp] theorem State.setMirrors_connWrites (dtr cts : Bool) : (s.setMirrors dtr cts).connWrites = s.connWrites := rfl

@[simp] theorem State.clearSlot_connWrites : s.clearSlot.connWrites = s.connWrites := rfl

@[simp] theorem State.pushEvictOldest_connWrites (b : Byte) : (s.pushEvictOldest b).connWrites = s.connWrites := by
  rw [State.pushEvictOldest_eq]
  rfl

@[simp] theorem State.pushDropNew_connWrites (b : Byte) : (s.pushDropNew b).connWrites = s.connWrites := by
  rw [State.pushDropNew_eq]
  rfl

/-- What a raised interrupt records is a call of the sink. -/
@[simp] theorem State.raiseIf_connWrites (enabled : Bool) : (s.raiseIf enabled).connWrites = s.connWrites := by
  rw [State.raiseIf_eq]
  cases enabled <;> simp [State.connWrites, Event.isConnWrite]

@[simp] theorem State.connRead_connWrites (maxLen minLen : Nat) :
    (s.connRead maxLen minLen).connWrites = s.connWrites := by
  unfold State.connRead
  split
  · split <;> rfl
  · rfl

/-- One call of `Conn.Write` records itself once, and nothing while no connection is attached. -/
theorem State.connWrite_connWrites_le (bytes : List Byte) : (s.connWrite bytes).connWrites ≤ s.connWrites + 1 := by
  rcases hc : s.conn with _ | c
  · simp [State.connWrite, hc]
  · rw [State.connWrite_some bytes hc]
    simp [State.connWrites, Event.isConnWrite]

/-! ## Calls of `Conn.Write` in the parts of a step (R240, R271) -/

@[simp] theorem State.unframedReceive_connWrites : s.unframedReceive.connWrites = s.connWrites := by
  unfold State.unframedReceive
  split
  · split <;> simp
  · rfl

theorem State.unframedTransmit_connWrites_le : s.unframedTransmit.connWrites ≤ s.connWrites + 1 := by
  unfold State.unframedTransmit
  split
  · simpa using s.connWrite_connWrites_le [s.txByte]
  · omega

@[simp] theorem State.takeFrame_connWrites (flags data : Byte) :
    (s.takeFrame flags data).connWrites = s.connWrites := by
  unfold State.takeFrame
  split <;> simp

@[simp] theorem State.drainFrame_connWrites : s.drainFrame.connWrites = s.connWrites := by
  unfold State.drainFrame
  split <;> simp

theorem iterate_connWrites {f : State → State} (hf : ∀ s, (f s).connWrites = s.connWrites) (n : Nat) :
    (iterate f n s).connWrites = s.connWrites := by
  induction n generalizing s with
  | zero => rfl
  | succ n ih => exact (ih (f s)).trans (hf s)

@[simp] theorem State.drainFrames_connWrites : s.drainFrames.connWrites = s.connWrites :=
  iterate_connWrites s State.drainFrame_connWrites _

theorem State.framedTransmit_connWrites_le : s.framedTransmit.connWrites ≤ s.connWrites + 1 := by
  unfold State.framedTransmit
  simpa using (s.clearSlot.raiseIf (s.txFull && s.txIntEn)).connWrite_connWrites_le [s.outFlags, s.outData]

/-! ## One transfer step (R208) -/

theorem State.unframedStep_connWrites_le : s.unframedStep.connWrites ≤ s.connWrites + 1 := by
  unfold State.unframedStep
  split
  · simpa using (s.setMirrors true true).unframedReceive.unframedTransmit_connWrites_le
  · simp

theorem State.framedStep_connWrites_le : s.framedStep.connWrites ≤ s.connWrites + 1 := by
  unfold State.framedStep
  split
  · simpa using s.drainFrames.framedTransmit_connWrites_le
  · simp

theorem State.transferStep_eq :
    s.transferStep = if s.config.protocol = .unframed then s.unframedStep else s.framedStep := by
  unfold State.transferStep
  cases s.config.protocol <;> rfl

theorem State.transferStep_connWrites_le : s.transferStep.connWrites ≤ s.connWrites + 1 := by
  rw [State.transferStep_eq]
  split
  · exact s.unframedStep_connWrites_le
  · exact s.framedStep_connWrites_le

/-- The outputs a transfer step adds to the history hold at most one call of `Conn.Write`. -/
theorem State.transferStep_outputs :
    ∃ es, s.transferStep.events = s.events ++ es ∧ es.countP Event.isConnWrite ≤ 1 := by
  obtain ⟨es, hes, _⟩ := s.transferStep_frame.outputs
  have hle := s.transferStep_connWrites_le
  simp only [State.connWrites, hes, List.countP_append] at hle
  exact ⟨es, hes, by omega⟩

end Sys2Proof.Machine

namespace Sys2Proof.Proofs

open Sys2Proof Sys2Proof.Machine

/-- Settles O24, by the four reload factors: each names its multiplier, and what is left is rounding of a product. -/
theorem ticksBetweenTransfersIsTheEvenProduct : Obligations.TicksBetweenTransfersIsTheEvenProduct := by
  intro mode baud
  have hlt := ticksBetweenTransfers_lt mode baud
  rcases multiplier_cases mode with ⟨hk, hm⟩ | ⟨hk, hm⟩ | ⟨hk, hm⟩ | ⟨hk, hm⟩ <;>
    (have period := ticksBetweenTransfers_of_multiplier baud hm; omega)

/-- Settles O31: the frame of a transfer step keeps the schedule and the registers, and its outputs hold at most one
call of `Conn.Write`. -/
theorem transferStepRunsOneProtocolStepAndKeepsRegisters :
    Obligations.TransferStepRunsOneProtocolStepAndKeepsRegisters := by
  intro s
  have frame := s.transferStep_frame
  exact ⟨s.transferStep_eq, frame.evActive, frame.evPeriod, s.transferStep_evElapsed, frame.ctrl, frame.mode,
    frame.baud, s.transferStep_outputs⟩

end Sys2Proof.Proofs
end

section
/-! PROOFS. The host events (44_host_events.md): an operation outside its lifecycle is refused (R300), and SHUTDOWN
leaves a state that is outside every operation's lifecycle (R302). -/

namespace Sys2Proof.Machine

variable {s : State}

/-! ## Refusal outside the lifecycle (R300) -/

theorem whenLive_not_live (t : State) (h : s.life ≠ .live) : whenLive s t = .refused (.lifecycle s.life) :=
  if_neg h

theorem whenAttached_not_live (effect : Connection → State) (h : s.life ≠ .live) :
    whenAttached s effect = .refused (.lifecycle s.life) :=
  if_neg h

theorem exec_construct_not_unbuilt (h : s.life ≠ .unbuilt) : exec .construct s = .refused (.lifecycle s.life) :=
  if_neg h

/-- ATTACH looks at its attachment requirement only while LIVE (R303). -/
theorem exec_attach_not_live (h : s.life ≠ .live) : exec .attach s = .refused (.lifecycle s.life) :=
  (if_neg fun hreq => h hreq.1).trans (whenLive_not_live _ h)

theorem exec_not_live {i : Instr} (hi : i ≠ .construct) (h : s.life ≠ .live) :
    exec i s = .refused (.lifecycle s.life) := by
  cases i with
  | construct => exact absurd rfl hi
  | attach => exact exec_attach_not_live h
  | detach | linkUp | linkDown | peerSend _ _ | peerRecv => exact whenAttached_not_live _ h
  | rdData | rdStat | rdMode | rdCtrl | rdBaud | rdUnk _ => exact whenLive_not_live _ h
  | wrData _ | wrStat _ | wrMode _ | wrCtrl _ | wrBaud _ | wrUnk _ _ => exact whenLive_not_live _ h
  | tick | fire | shutdown | save | load _ => exact whenLive_not_live _ h

/-- DEAD is neither UNBUILT nor LIVE, so it is outside the lifecycle of CONSTRUCT and of everything else. -/
theorem exec_dead (i : Instr) (h : s.life = .dead) : exec i s = .refused (.lifecycle .dead) := by
  rw [← h]
  by_cases hi : i = .construct
  · rw [hi]
    exact exec_construct_not_unbuilt (by simp [h])
  · exact exec_not_live hi (by simp [h])

/-! ## SHUTDOWN (R302) -/

theorem exec_shutdown_live (h : s.life = .live) :
    exec .shutdown s = .next { s with evActive := false, conn := none, life := .dead } :=
  whenLive_live _ h

end Sys2Proof.Machine

namespace Sys2Proof.Proofs

open Sys2Proof Sys2Proof.Machine

/-- Settles O54: the state SHUTDOWN leaves is DEAD, and a DEAD state refuses every operation. -/
theorem shutdownEndsTheInstance : Obligations.ShutdownEndsTheInstance :=
  ⟨rfl, fun _ hlive => ⟨_, exec_shutdown_live hlive, rfl, fun i => exec_dead i rfl⟩⟩

end Sys2Proof.Proofs
end

section
/-! PROOFS. The soft reset (70_reset_and_hazards.md): the register writes, then a reschedule that touches only the
schedule, so what R380 names is read off the registers as they were written. -/

namespace Sys2Proof.Machine

variable (s : State)

/-! ## What a reschedule keeps (41_scheduler.md R203) -/

@[simp] theorem State.rescheduleIfNeeded_dtrIn : s.rescheduleIfNeeded.dtrIn = s.dtrIn := by
  rw [s.rescheduleIfNeeded_eq]

@[simp] theorem State.rescheduleIfNeeded_ctsIn : s.rescheduleIfNeeded.ctsIn = s.ctsIn := by
  rw [s.rescheduleIfNeeded_eq]

@[simp] theorem State.rescheduleIfNeeded_fifo : s.rescheduleIfNeeded.fifo = s.fifo := by
  rw [s.rescheduleIfNeeded_eq]

@[simp] theorem State.rescheduleIfNeeded_txFull : s.rescheduleIfNeeded.txFull = s.txFull := by
  rw [s.rescheduleIfNeeded_eq]

/-! ## What a soft reset leaves in these fields (R380, R383) -/

@[simp] theorem State.softReset_dtrIn : s.softReset.dtrIn = s.dtrIn :=
  s.resetRegisters.rescheduleIfNeeded_dtrIn

@[simp] theorem State.softReset_ctsIn : s.softReset.ctsIn = s.ctsIn :=
  s.resetRegisters.rescheduleIfNeeded_ctsIn

@[simp] theorem State.softReset_fifo : s.softReset.fifo = [] :=
  s.resetRegisters.rescheduleIfNeeded_fifo

@[simp] theorem State.softReset_txFull : s.softReset.txFull = false :=
  s.resetRegisters.rescheduleIfNeeded_txFull

/-! ## The derived Status bits (10_state.md R44) -/

variable {s}

theorem State.txRdy_of_slot_empty (h : s.txFull = false) : s.txRdy = true := by
  rw [State.txRdy, h, Bool.not_false]

theorem State.txDone_of_slot_empty (h : s.txFull = false) : s.txDone = true := by
  rw [State.txDone, h, Bool.not_false]

theorem State.rxFifoNEmpty_of_fifo_empty (h : s.fifo = []) : s.rxFifoNEmpty = false := by
  simp [State.rxFifoNEmpty, h]

end Sys2Proof.Machine

namespace Sys2Proof.Proofs

open Sys2Proof Sys2Proof.Machine

/-- Settles O22: a soft reset is the reschedule of the written registers, which keeps the mirrors; the derived bits
follow from the slot and the FIFO it leaves empty. -/
theorem softResetWritesTheRegistersAndReschedules : Obligations.SoftResetWritesTheRegistersAndReschedules := by
  intro s
  refine ⟨rfl, s.softReset_dtrIn, s.softReset_ctsIn, ?_, ?_, ?_⟩
  · exact State.txRdy_of_slot_empty s.softReset_txFull
  · exact State.txDone_of_slot_empty s.softReset_txFull
  · exact State.rxFifoNEmpty_of_fifo_empty s.softReset_fifo

end Sys2Proof.Proofs
end

section
/-! PROOFS. The encoding (30_encoding.md): a descriptor byte is the descriptor, each decoder of a class reads back what
`encode` writes and gives nothing else, and the step performs what it decodes. -/

namespace Sys2Proof

/-! ## Descriptor bytes and class selectors (R111) -/

theorem decode_descriptorByte (d : BitVec 6) (rest : List Byte) :
    decode ((0#2 ++ d) :: rest) = decodeDescriptor d rest := by
  have hhigh : (0#2 ++ d).extractLsb' 6 2 = 0#2 := by revert d; decide
  have hlow : (0#2 ++ d).extractLsb' 0 6 = d := by revert d; decide
  simp only [decode, hhigh, hlow, if_true]

/-- A byte by its classes of bits: 7:6 zero, the class, the selector. -/
theorem decode_classByte (cls : BitVec 2) (selector : BitVec 4) (rest : List Byte) :
    decode ((0#2 ++ cls ++ selector) :: rest) = decodeDescriptor (cls ++ selector) rest := by
  have hbyte : 0#2 ++ cls ++ selector = 0#2 ++ (cls ++ selector) := by revert cls selector; decide
  rw [hbyte, decode_descriptorByte]

/-- Only a byte with bits 7:6 zero stands for a descriptor (log 1). -/
theorem descriptorByte_of_decode {b : Byte} {rest : List Byte} {r : Instr × List Byte}
    (h : decode (b :: rest) = .ok r) : ∃ d : BitVec 6, b = 0#2 ++ d ∧ decodeDescriptor d rest = .ok r := by
  simp only [decode] at h
  split at h
  · rename_i hhigh
    have hbyte : ∀ b : Byte, b.extractLsb' 6 2 = 0#2 → b = 0#2 ++ b.extractLsb' 0 6 := by decide
    exact ⟨_, hbyte b hhigh, h⟩
  · cases h

theorem decodeDescriptor_read (offset : BitVec 4) (rest : List Byte) :
    decodeDescriptor (0b00#2 ++ offset) rest = .ok (decodeRead offset, rest) := by
  have hclass : (0b00#2 ++ offset).extractLsb' 4 2 = 0b00#2 := by revert offset; decide
  have hoffset : (0b00#2 ++ offset).extractLsb' 0 4 = offset := by revert offset; decide
  simp only [decodeDescriptor, hclass, hoffset, if_true]

theorem decodeDescriptor_write (offset : BitVec 4) (value : Word) (rest : List Byte) :
    decodeDescriptor (0b01#2 ++ offset) (wordBytes value ++ rest) = .ok (decodeWrite offset value, rest) := by
  have hclass : (0b01#2 ++ offset).extractLsb' 4 2 = 0b01#2 := by revert offset; decide
  have hoffset : (0b01#2 ++ offset).extractLsb' 0 4 = offset := by revert offset; decide
  simp [decodeDescriptor, hclass, hoffset, takeWord_wordBytes]

theorem decodeDescriptor_internal (selector : BitVec 4) (rest : List Byte) :
    decodeDescriptor (0b10#2 ++ selector) rest = decodeInternal (0b10#2 ++ selector) rest := by
  have hclass : (0b10#2 ++ selector).extractLsb' 4 2 = 0b10#2 := by revert selector; decide
  rw [decodeDescriptor, hclass]
  rfl

theorem decodeDescriptor_host (selector : BitVec 4) (rest : List Byte) :
    decodeDescriptor (0b11#2 ++ selector) rest = decodeHost (0b11#2 ++ selector) rest := by
  have hclass : (0b11#2 ++ selector).extractLsb' 4 2 = 0b11#2 := by revert selector; decide
  rw [decodeDescriptor, hclass]
  rfl

theorem decodeRead_unknown {offset : BitVec 4} (h : registerOffset offset = false) :
    decodeRead offset = .rdUnk offset := by
  revert offset
  decide

theorem decodeWrite_unknown {offset : BitVec 4} (value : Word) (h : registerOffset offset = false) :
    decodeWrite offset value = .wrUnk offset value := by
  simp only [registerOffset, Bool.or_eq_false_iff, beq_eq_false_iff_ne] at h
  simp [decodeWrite, h]

/-! ## Decoding what was encoded -/

theorem decode_encode {i : Instr} (rest : List Byte) (hwf : i.WellFormed) :
    decode (encode i ++ rest) = .ok (i, rest) := by
  rw [encode, List.cons_append, decode_descriptorByte]
  cases i with
  | rdData | rdStat | rdMode | rdCtrl | rdBaud => rfl
  | tick | fire | construct | shutdown | attach | detach | save | linkUp | linkDown | peerRecv => rfl
  | rdUnk offset =>
    have hunknown : registerOffset offset = false := by simpa [Instr.WellFormed, Instr.wellFormed] using hwf
    exact (decodeDescriptor_read offset rest).trans (by rw [decodeRead_unknown hunknown])
  | wrUnk offset value =>
    have hunknown : registerOffset offset = false := by simpa [Instr.WellFormed, Instr.wellFormed] using hwf
    exact (decodeDescriptor_write offset value rest).trans (by rw [decodeWrite_unknown value hunknown])
  | wrData value => exact decodeDescriptor_write 0x0#4 value rest
  | wrStat value => exact decodeDescriptor_write 0x4#4 value rest
  | wrMode value => exact decodeDescriptor_write 0x8#4 value rest
  | wrCtrl value => exact decodeDescriptor_write 0xA#4 value rest
  | wrBaud value => exact decodeDescriptor_write 0xE#4 value rest
  | load image =>
    refine (decodeDescriptor_host 0x5#4 (imageBytes image ++ rest)).trans ?_
    rw [decodeHost, takeImage_imageBytes]
    rfl
  | peerSend first more =>
    refine (decodeDescriptor_host 0x8#4 (listBytes first more ++ rest)).trans ?_
    rw [decodeHost, takeBytes_listBytes]
    rfl

/-! ## Encoding what was decoded -/

/-- The bytes `rest` behind the descriptor `d` are the operand bytes of the well-formed operation `i`, then `after`. -/
def OperandsOf (d : BitVec 6) (rest : List Byte) (i : Instr) (after : List Byte) : Prop :=
  i.WellFormed ∧ i.descriptor = d ∧ rest = i.operandBytes ++ after

/-- An operation without operands is followed at once by the rest. -/
theorem operandsOf_bare {j : Instr} {d : BitVec 6}
    (hj : j.WellFormed ∧ j.descriptor = d ∧ j.operandBytes = []) (rest : List Byte) : OperandsOf d rest j rest := by
  obtain ⟨hwf, hd, hbytes⟩ := hj
  exact ⟨hwf, hd, by rw [hbytes, List.nil_append]⟩

/-- One row of a decoder's table: either it is the row of `d`, or the rows below it decide. -/
theorem operandsOf_row {d row : BitVec 6} {rest after : List Byte} {i : Instr}
    {here below : Except DecodeError (Instr × List Byte)}
    (h : (if d = row then here else below) = .ok (i, after))
    (hhere : here = .ok (i, after) → OperandsOf row rest i after)
    (hbelow : below = .ok (i, after) → OperandsOf d rest i after) : OperandsOf d rest i after := by
  split at h
  · rename_i hd
    rw [hd]
    exact hhere h
  · exact hbelow h

/-- A row of an operation without operands. -/
theorem operandsOf_bareRow {d row : BitVec 6} {rest after : List Byte} {i j : Instr}
    {below : Except DecodeError (Instr × List Byte)}
    (h : (if d = row then .ok (j, rest) else below) = .ok (i, after))
    (hj : j.WellFormed ∧ j.descriptor = row ∧ j.operandBytes = [])
    (hbelow : below = .ok (i, after) → OperandsOf d rest i after) : OperandsOf d rest i after := by
  refine operandsOf_row h (fun hrow => ?_) hbelow
  cases hrow
  exact operandsOf_bare hj rest

theorem decodeRead_operandsOf (offset : BitVec 4) (rest : List Byte) :
    OperandsOf (0b00#2 ++ offset) rest (decodeRead offset) rest := by
  refine operandsOf_bare ?_ rest
  revert offset
  decide

theorem decodeWrite_operandsOf (offset : BitVec 4) (value : Word) (after : List Byte) :
    OperandsOf (0b01#2 ++ offset) (wordBytes value ++ after) (decodeWrite offset value) after := by
  by_cases h : registerOffset offset = false
  · rw [decodeWrite_unknown value h]
    exact ⟨by simp [Instr.WellFormed, Instr.wellFormed, h], rfl, rfl⟩
  · simp only [registerOffset, Bool.not_eq_false, Bool.or_eq_true, beq_iff_eq] at h
    rcases h with (((rfl | rfl) | rfl) | rfl) | rfl <;> exact ⟨rfl, rfl, rfl⟩

theorem decodeInternal_operandsOf {d : BitVec 6} {rest after : List Byte} {i : Instr}
    (h : decodeInternal d rest = .ok (i, after)) : OperandsOf d rest i after := by
  unfold decodeInternal at h
  refine operandsOf_bareRow h ⟨rfl, rfl, rfl⟩ fun h => ?_
  refine operandsOf_bareRow h ⟨rfl, rfl, rfl⟩ fun h => ?_
  cases h

theorem decodeHost_operandsOf {d : BitVec 6} {rest after : List Byte} {i : Instr}
    (h : decodeHost d rest = .ok (i, after)) : OperandsOf d rest i after := by
  unfold decodeHost at h
  refine operandsOf_bareRow h ⟨rfl, rfl, rfl⟩ fun h => ?_
  refine operandsOf_bareRow h ⟨rfl, rfl, rfl⟩ fun h => ?_
  refine operandsOf_bareRow h ⟨rfl, rfl, rfl⟩ fun h => ?_
  refine operandsOf_bareRow h ⟨rfl, rfl, rfl⟩ fun h => ?_
  refine operandsOf_bareRow h ⟨rfl, rfl, rfl⟩ fun h => ?_
  refine operandsOf_row h (fun h => ?_) fun h => ?_
  · split at h
    · cases h
      exact ⟨rfl, rfl, imageBytes_takeImage ‹_›⟩
    · cases h
  refine operandsOf_bareRow h ⟨rfl, rfl, rfl⟩ fun h => ?_
  refine operandsOf_bareRow h ⟨rfl, rfl, rfl⟩ fun h => ?_
  refine operandsOf_row h (fun h => ?_) fun h => ?_
  · split at h
    · cases h
      exact ⟨rfl, rfl, listBytes_takeBytes ‹_›⟩
    · cases h
  refine operandsOf_bareRow h ⟨rfl, rfl, rfl⟩ fun h => ?_
  cases h

theorem decodeDescriptor_operandsOf {d : BitVec 6} {rest after : List Byte} {i : Instr}
    (h : decodeDescriptor d rest = .ok (i, after)) : OperandsOf d rest i after := by
  have hsplit : ∀ d : BitVec 6, d.extractLsb' 4 2 ++ d.extractLsb' 0 4 = d := by decide
  unfold decodeDescriptor at h
  split_ifs at h with hread hwrite hinternal
  · cases h
    have hoperands := decodeRead_operandsOf (d.extractLsb' 0 4) rest
    rwa [← hread, hsplit] at hoperands
  · split at h
    · rename_i value rest' hoperand
      cases h
      have hoperands := decodeWrite_operandsOf (d.extractLsb' 0 4) value after
      rwa [← hwrite, hsplit, ← wordBytes_takeWord hoperand] at hoperands
    · cases h
  · exact decodeInternal_operandsOf h
  · exact decodeHost_operandsOf h

theorem decode_ok_encode {bytes rest : List Byte} {i : Instr} (h : decode bytes = .ok (i, rest)) :
    i.WellFormed ∧ bytes = encode i ++ rest := by
  cases bytes with
  | nil => cases h
  | cons b tail =>
    obtain ⟨d, rfl, hd⟩ := descriptorByte_of_decode h
    obtain ⟨hwf, rfl, rfl⟩ := decodeDescriptor_operandsOf hd
    exact ⟨hwf, rfl⟩

/-! ## Reserved descriptors (R114 to R116) -/

theorem decodeDescriptor_internal_reserved {selector : BitVec 4} (rest : List Byte) (h : 0x2 ≤ selector.toNat) :
    decodeDescriptor (0b10#2 ++ selector) rest = .error (.reserved (0b10#2 ++ selector)) := by
  have hrows : 0b10#2 ++ selector ≠ 0x20#6 ∧ 0b10#2 ++ selector ≠ 0x21#6 := by revert selector; decide
  obtain ⟨htick, hfire⟩ := hrows
  rw [decodeDescriptor_internal, decodeInternal, if_neg htick, if_neg hfire]

theorem decodeDescriptor_host_reserved {selector : BitVec 4} (rest : List Byte) (h : 0xA ≤ selector.toNat) :
    decodeDescriptor (0b11#2 ++ selector) rest = .error (.reserved (0b11#2 ++ selector)) := by
  have hrows : ∀ row ∈ [0x30#6, 0x31#6, 0x32#6, 0x33#6, 0x34#6, 0x35#6, 0x36#6, 0x37#6, 0x38#6, 0x39#6],
      (0b11#2 ++ selector = row) = False := by revert selector; decide
  simp only [List.forall_mem_cons, List.not_mem_nil, false_imp_iff, implies_true, and_true] at hrows
  simp only [decodeDescriptor_host, decodeHost, hrows, if_false]

end Sys2Proof

namespace Sys2Proof.Machine

/-! ## The step and the script (log 2) -/

theorem step_of_decode_ok {s : State} {i : Instr} {rest : List Byte} (h : decode s.script = .ok (i, rest)) :
    step s = exec i (s.setScript rest) := by
  simp only [step, State.fetch, h]

theorem step_of_decode_error {s : State} {e : DecodeError} (h : decode s.script = .error e) :
    step s = .refused (.undecodable e) := by
  simp only [step, State.fetch, h]

theorem State.placeTableWord_of_decode {nbits w : Nat} {i : Instr} {rest : List Byte}
    (h : decode (tableBytes nbits w) = .ok (i, rest)) (s : State) :
    s.placeTableWord nbits w = s.setScript (encode i ++ s.script) := by
  obtain ⟨_, hbytes⟩ := decode_ok_encode h
  simp only [State.placeTableWord, h]
  simp [hbytes]

end Sys2Proof.Machine

namespace Sys2Proof.Proofs

open Sys2Proof Sys2Proof.Machine

/-- Settles O1, by the rows of the opcode table: each class of descriptors reads back its operand bytes. -/
theorem decodeReturnsTheEncodedOperation : Obligations.DecodeReturnsTheEncodedOperation :=
  fun _ rest hwf => decode_encode rest hwf

/-- Settles O2, by the branches of the decoder: each gives an operation whose descriptor and operands it has read. -/
theorem decodedBytesAreAnEncoding : Obligations.DecodedBytesAreAnEncoding :=
  fun _ _ _ h => decode_ok_encode h

/-- Settles O3: the unknown offsets are encodings, and no row of classes 0b10 and 0b11 has a selector that high. -/
theorem unknownOffsetsDecodeAndReservedDescriptorsAreRefused :
    Obligations.UnknownOffsetsDecodeAndReservedDescriptorsAreRefused := by
  refine ⟨fun offset rest h => ?_, fun offset value rest h => ?_, fun selector rest h => ?_,
    fun selector rest h => ?_⟩
  · refine (decode_classByte 0b00#2 offset rest).trans ?_
    rw [decodeDescriptor_read, decodeRead_unknown h]
  · refine (decode_classByte 0b01#2 offset (wordBytes value ++ rest)).trans ?_
    rw [decodeDescriptor_write, decodeWrite_unknown value h]
  · exact (decode_classByte 0b10#2 selector rest).trans (decodeDescriptor_internal_reserved rest h)
  · exact (decode_classByte 0b11#2 selector rest).trans (decodeDescriptor_host_reserved rest h)

/-- Settles O4: the decoder evaluates on the written-out bytes. -/
theorem specDescriptorsDecodeToTheirOperations : Obligations.SpecDescriptorsDecodeToTheirOperations := by
  unfold Obligations.SpecDescriptorsDecodeToTheirOperations
  decide

/-- Settles O5: the fetch is the decoder on the script. -/
theorem stepPerformsTheDecodedOperation : Obligations.StepPerformsTheDecodedOperation :=
  fun _ => ⟨fun _ _ h => step_of_decode_ok h, fun _ h => step_of_decode_error h⟩

/-- Settles O6: a word that decodes is placed as the encoding of its operation, which decodes before any script. -/
theorem stepAfterPlacingATableWordPerformsIt : Obligations.StepAfterPlacingATableWordPerformsIt := by
  intro s nbits w i h
  unfold decodeTableWord at h
  split at h
  · rename_i j rest hdecode
    cases h
    have hplaced : s.withFetchWord nbits w = s.setScript (encode i ++ s.script) :=
      State.placeTableWord_of_decode hdecode s
    rw [hplaced, step_of_decode_ok (decode_encode s.script (decode_ok_encode hdecode).1)]
    rfl
  · cases h

end Sys2Proof.Proofs
end

section
/-! PROOFS. The requirements of an operation (44_host_events.md R300 to R313): where its requirement holds an operation
completes in one known next state, and where it does not the operation is refused by that requirement. -/

namespace Sys2Proof.Machine

variable {s : State}

/-! ## The two guards -/

theorem whenAttached_some {c : Connection} (effect : Connection → State) (hlive : s.life = .live)
    (hc : s.conn = some c) : whenAttached s effect = .next (effect c) := by
  simp only [whenAttached, hlive, hc, if_true]

theorem whenAttached_none (effect : Connection → State) (hlive : s.life = .live) (hc : s.conn = none) :
    whenAttached s effect = .refused .notAttached := by
  simp only [whenAttached, hlive, hc, if_true]

theorem exec_attach_attached (hlive : s.life = .live) (hc : s.conn.isSome = true) :
    exec .attach s = .refused .alreadyAttached :=
  if_pos ⟨hlive, hc⟩

theorem exec_attach_detached (hlive : s.life = .live) (hc : s.conn = none) :
    exec .attach s = .next (s.setConn (some newConnection)).rescheduleIfNeeded := by
  refine (if_neg fun hreq => ?_).trans (whenLive_live _ hlive)
  simp [State.connAttached, hc] at hreq

/-! ## The next state of an operation -/

/-- Rewrites the connection, where one is attached. -/
def State.mapConn (f : Connection → Connection) (s : State) : State := s.setConn (s.conn.map f)

/-- What `i` makes of a state that meets its requirement (`exec_admitted`). -/
def State.after (s : State) : Instr → State
  | .rdData => s.invokeEarly.readData
  | .rdStat => s.invokeEarly.emit (.readResult s.invokeEarly.status)
  | .rdMode => s.emit (.readResult (zext32 s.mode))
  | .rdCtrl => s.emit (.readResult (zext32 s.ctrl))
  | .rdBaud => s.emit (.readResult (zext32 s.baud))
  | .rdUnk _ => s.emit (.readResult allOnes32)
  | .wrData value => s.invokeEarly.fillSlot (lowByte value)
  | .wrStat _ | .wrUnk _ _ => s
  | .wrMode value => { s with mode := lowHalf value }
  | .wrCtrl value => s.writeCtrl (lowHalf value)
  | .wrBaud value => { s with baud := lowHalf value }
  | .tick => s.countTick
  | .fire => if s.transferDue then s.performDue else s
  | .construct => s.construct
  | .shutdown => { s.deactivate.setConn none with life := .dead }
  | .attach => (s.setConn (some newConnection)).rescheduleIfNeeded
  | .detach => (s.setConn none).rescheduleIfNeeded
  | .save => s.emit (.saveImage s.image)
  | .load image => (s.loadRegisters image).rescheduleIfNeeded
  | .linkUp => s.mapConn fun c => { c with up := true }
  | .linkDown => s.mapConn fun c => { c with up := false }
  | .peerSend first rest => s.mapConn fun c => { c with inbound := c.inbound ++ first :: rest }
  | .peerRecv =>
    { s.mapConn fun c => { c with outbound := [] } with
      peerResults := s.peerResults ++ s.conn.toList.map Connection.outbound }

/-- An operation of an attached connection completes in the effect the guard gives it. -/
theorem whenAttached_after {effect : Connection → State} {t : State} (h : s.life = .live ∧ s.conn.isSome = true)
    (heffect : ∀ c, s.conn = some c → effect c = t) : whenAttached s effect = .next t := by
  obtain ⟨hlive, hsome⟩ := h
  obtain ⟨c, hc⟩ := Option.isSome_iff_exists.mp hsome
  rw [whenAttached_some effect hlive hc, heffect c hc]

theorem exec_admitted {i : Instr} (h : s.Admits i) : exec i s = .next (s.after i) := by
  cases i with
  | construct => exact if_pos h
  | attach => exact exec_attach_detached h.1 h.2
  | detach => exact whenAttached_after h fun _ _ => rfl
  | linkUp | linkDown | peerSend _ _ =>
    exact whenAttached_after h fun c hc => by simp only [State.after, State.mapConn, hc, Option.map_some]
  | peerRecv =>
    exact whenAttached_after h fun c hc => by
      simp only [State.after, State.mapConn, hc, Option.map_some]
      rfl
  | rdData | rdStat | rdMode | rdCtrl | rdBaud | rdUnk _ => exact whenLive_live _ h
  | wrData _ | wrStat _ | wrMode _ | wrCtrl _ | wrBaud _ | wrUnk _ _ => exact whenLive_live _ h
  | tick | fire | shutdown | save | load _ => exact whenLive_live _ h

/-- Unless LIVE, CONSTRUCT and every other operation are refused alike. -/
theorem exec_refused {i : Instr} (h : ¬ s.Admits i) :
    ∃ r, exec i s = .refused r ∧ (r = .lifecycle s.life ∨ r = .alreadyAttached ∨ r = .notAttached) := by
  by_cases hi : i = .construct
  · subst hi
    exact ⟨_, exec_construct_not_unbuilt h, .inl rfl⟩
  by_cases hlive : s.life = .live
  · cases i with
    | construct => exact absurd rfl hi
    | attach =>
      have hc : s.conn ≠ none := fun hc => h ⟨hlive, hc⟩
      exact ⟨_, exec_attach_attached hlive (Option.isSome_iff_ne_none.mpr hc), .inr (.inl rfl)⟩
    | detach | linkUp | linkDown | peerSend _ _ | peerRecv =>
      have hc : ¬ s.conn.isSome = true := fun hc => h ⟨hlive, hc⟩
      exact ⟨_, whenAttached_none _ hlive (by simpa using hc), .inr (.inr rfl)⟩
    | rdData | rdStat | rdMode | rdCtrl | rdBaud | rdUnk _ => exact absurd hlive h
    | wrData _ | wrStat _ | wrMode _ | wrCtrl _ | wrBaud _ | wrUnk _ _ => exact absurd hlive h
    | tick | fire | shutdown | save | load _ => exact absurd hlive h
  · exact ⟨_, exec_not_live hi hlive, .inl rfl⟩

/-- An operation that completes met its requirement, and its next state is the one `after` names. -/
theorem exec_next {i : Instr} {t : State} (h : exec i s = .next t) : s.Admits i ∧ t = s.after i := by
  by_cases hi : s.Admits i
  · refine ⟨hi, ?_⟩
    rw [exec_admitted hi] at h
    cases h
    rfl
  · obtain ⟨r, hr, _⟩ := exec_refused hi
    rw [hr] at h
    cases h

end Sys2Proof.Machine

namespace Sys2Proof.Proofs

open Sys2Proof Sys2Proof.Machine

/-- Settles O7: both guards look at the lifecycle before anything else. -/
theorem operationsOutsideTheirLifecycleAreRefused : Obligations.OperationsOutsideTheirLifecycleAreRefused :=
  fun _ _ => ⟨exec_not_live, exec_construct_not_unbuilt⟩

/-- Settles O8: while LIVE the attachment decides, by its own name for ATTACH and by the guard for the others. -/
theorem attachmentRequirementsAreRefusedByName : Obligations.AttachmentRequirementsAreRefusedByName :=
  fun _ hlive => ⟨exec_attach_attached hlive, fun hc =>
    ⟨whenAttached_none _ hlive hc, whenAttached_none _ hlive hc, whenAttached_none _ hlive hc,
      fun _ _ => whenAttached_none _ hlive hc, whenAttached_none _ hlive hc⟩⟩

/-- Settles O9: an admitted operation has its next state, any other its refusal, and there is no fault to answer. -/
theorem operationsCompleteOrAreRefusedByTheirRequirement :
    Obligations.OperationsCompleteOrAreRefusedByTheirRequirement :=
  fun _ _ => ⟨fun r => (nomatch r), fun h => ⟨_, exec_admitted h⟩, exec_refused⟩

end Sys2Proof.Proofs
end

section
/-! PROOFS. The register port (40_register_port.md): the accesses that are one update of the state, the Status word and
the packing of a data read bit by bit, and the Control write with and without RESET. -/

namespace Sys2Proof.Machine

variable {s : State}

/-! ## Status word (10_state.md R43, R47) -/

/-- The word is nine single bits, so each place is asked for in turn. -/
theorem State.status_bit (s : State) (n : Nat) :
    s.status.getLsbD n =
      ((decide (n = 0) && !s.txFull) || (decide (n = 1) && !s.fifo.isEmpty) || (decide (n = 2) && !s.txFull) ||
        (decide (n = 3) && s.rxParity) || (decide (n = 4) && s.rxFifoOverrun) || (decide (n = 5) && s.rxBadStopBit) ||
        (decide (n = 7) && s.dtrIn) || (decide (n = 8) && s.ctsIn) || (decide (n = 9) && s.intr)) := by
  have hfifo : s.rxFifoNEmpty = !s.fifo.isEmpty := by cases h : s.fifo <;> simp [State.rxFifoNEmpty, h]
  simp only [State.status, BitVec.getLsbD_or, statusBit_bit _ n (show 0 < 32 by decide),
    statusBit_bit _ n (show 1 < 32 by decide), statusBit_bit _ n (show 2 < 32 by decide),
    statusBit_bit _ n (show 3 < 32 by decide), statusBit_bit _ n (show 4 < 32 by decide),
    statusBit_bit _ n (show 5 < 32 by decide), statusBit_bit _ n (show 7 < 32 by decide),
    statusBit_bit _ n (show 8 < 32 by decide), statusBit_bit _ n (show 9 < 32 by decide), hfifo, State.txRdy,
    State.txDone]

/-! ## Data read (R141 to R143) -/

theorem State.readData_empty (h : s.fifo = []) : s.readData = s.emit (.readResult 0xFFFFFFFF#32) := by
  simp [State.readData, State.dataReadFifo, State.dataReadValue, h, State.setFifo, State.emit, allOnes32]

/-- Taking or dropping as many bytes as there are of the first four is taking or dropping four. -/
theorem State.readData_nonempty (h : s.fifo ≠ []) :
    s.readData =
      (s.setFifo (match s.config.rxReadPolicy with
        | .peek => s.fifo
        | .dequeueOne => s.fifo.drop 1
        | .dequeuePacked => s.fifo.drop 4)).emit (.readResult (rxPack (s.fifo.take 4))) := by
  have hne : s.fifo.length ≠ 0 := by simpa using h
  have htake : s.fifo.take (min s.fifo.length 4) = s.fifo.take 4 := by rw [List.take_eq_take_iff]; omega
  have hdrop : s.fifo.drop (min s.fifo.length 4) = s.fifo.drop 4 := by rw [List.drop_eq_drop_iff]; omega
  rw [State.readData, State.dataReadFifo, State.dataReadValue, if_neg hne, if_neg hne, htake]
  cases hp : s.config.rxReadPolicy <;> simp [fifoAfterRead, hdrop]

/-! ## Packing (R142) -/

/-- One byte alone meets P1 and P2 without the constraint being put on it. -/
theorem rxPack_one_meets (b0 : Byte) :
    (rxPack [b0]).extractLsb' 24 8 = 0x00#8 ∧ (rxPack [b0]).extractLsb' 16 8 &&& b0 = b0 := by
  revert b0
  decide

theorem rxPack_meets (b0 : Byte) (more : List Byte) :
    (rxPack (b0 :: more)).extractLsb' 24 8 = 0x00#8 ∧ (rxPack (b0 :: more)).extractLsb' 16 8 &&& b0 = b0 := by
  match more with
  | [] => exact rxPack_one_meets b0
  | [b1] => exact constrainPack_meets b0 _
  | [b1, b2] => exact constrainPack_meets b0 _
  | b1 :: b2 :: b3 :: _ => exact constrainPack_meets b0 _

/-! ## Register window (20_memory.md R80) -/

theorem windowOffset_some_iff (c : Config) (address : Nat) (offset : BitVec 4) :
    windowOffset c address = some offset ↔ address = c.sioBase + offset.toNat := by
  have hlt := offset.isLt
  unfold windowOffset
  split
  · rw [Option.some_inj, ← BitVec.toNat_inj, BitVec.toNat_ofNat]
    omega
  · simp only [reduceCtorEq, false_iff]
    omega

theorem windowOffset_none_iff (c : Config) (address : Nat) :
    windowOffset c address = none ↔ address < c.sioBase ∨ c.sioBase + 16 ≤ address := by
  unfold windowOffset
  split <;> simp only [reduceCtorEq, false_iff, true_iff] <;> omega

end Sys2Proof.Machine

namespace Sys2Proof.Proofs

open Sys2Proof Sys2Proof.Machine

/-- Settles O16: the exclusive chain picks the one place of the word that `n` names. -/
theorem statusWordHasItsFieldsAtTheirPlaces : Obligations.StatusWordHasItsFieldsAtTheirPlaces := by
  intro s n
  rw [State.status_bit]
  split_ifs <;> simp_all

/-- Settles O17, by whether the early invocation leaves a byte in the FIFO. -/
theorem dataReadPacksTheFirstBytes : Obligations.DataReadPacksTheFirstBytes := by
  intro s hlive
  have hexec : exec .rdData s = .next s.invokeEarly.readData := whenLive_live _ hlive
  refine ⟨fun hempty => ?_, fun hne => ?_⟩
  · rw [hexec, State.readData_empty hempty]
    rfl
  · rw [hexec, State.readData_nonempty hne, s.invokeEarly_frame.config]
    rfl

/-- Settles O18: every layout but that of a lone byte is constrained. -/
theorem packingMeetsItsConstraints : Obligations.PackingMeetsItsConstraints := by
  intro b0 more _
  obtain ⟨htop, hfirst⟩ := rxPack_meets b0 more
  exact ⟨htop, hfirst, rfl⟩

/-- Settles O20: the record of a Control write without RESET, with the low half of the value read bit by bit. -/
theorem controlWriteWithoutReset : Obligations.ControlWriteWithoutReset := by
  intro s value hlive hbit
  have hexec : exec (.wrCtrl value) s = .next (s.writeCtrl (lowHalf value)) := whenLive_live _ hlive
  have hreset : (lowHalf value).getLsbD 6 = false := by rw [lowHalf_bit value (by decide), hbit]
  have hslot : ∀ cleared : Bool, (s.txFull && !cleared) = if cleared = true then false else s.txFull := by
    intro cleared; cases cleared <;> simp
  rw [hexec, State.writeCtrl_keep s hreset]
  simp only [lowHalf_bit value (show 0 < 16 by decide), lowHalf_bit value (show 2 < 16 by decide),
    lowHalf_bit value (show 4 < 16 by decide)]
  simp only [storedCtrl, lowHalf_eq, hslot, enableCleared_iff, State.rxEn, State.txEn]

/-- Settles O21: what follows the reset clears nothing it has not cleared. -/
theorem controlWriteWithResetIsASoftReset : Obligations.ControlWriteWithResetIsASoftReset := by
  intro s value hlive hbit
  have hreset : (lowHalf value).getLsbD 6 = true := by rw [lowHalf_bit value (by decide), hbit]
  rw [← State.writeCtrl_reset s hreset]
  exact whenLive_live _ hlive

/-- Settles O59, by whether the address lies in the window. -/
theorem windowIsSixteenAddressesFromItsBase : Obligations.WindowIsSixteenAddressesFromItsBase :=
  fun c address => ⟨windowOffset_some_iff c address, windowOffset_none_iff c address⟩

/-- Settles O11: both accesses are one update, of the record and of MODE by the narrowed value. -/
theorem modeIsAPlainAccessor : Obligations.ModeIsAPlainAccessor := by
  intro s value hlive
  rw [← lowHalf_eq]
  exact ⟨whenLive_live _ hlive, whenLive_live _ hlive⟩

/-- Settles O13: the read only records the sentinel. -/
theorem unknownOffsetsReadAllOnesAndIgnoreWrites : Obligations.UnknownOffsetsReadAllOnesAndIgnoreWrites :=
  fun _ _ _ hlive => ⟨whenLive_live _ hlive, whenLive_live _ hlive⟩

/-- Settles O14: the effect of the write is the state itself. -/
theorem statusWriteHasNoEffect : Obligations.StatusWriteHasNoEffect :=
  fun _ _ hlive => whenLive_live _ hlive

/-- Settles O19: the slot is filled after the early invocation, and both derived bits are its negation. -/
theorem dataWriteFillsTheSlot : Obligations.DataWriteFillsTheSlot := by
  intro s value hlive
  rw [← lowByte_eq]
  exact ⟨_, whenLive_live _ hlive, rfl, rfl, rfl⟩

end Sys2Proof.Proofs
end

section
/-! PROOFS. The scheduler at work (41_scheduler.md R203 to R207): what a reschedule does by the connection and the
period, the period a soft reset schedules, and the early invocation as the loop over due transfers. -/

namespace Sys2Proof.Machine

variable {s : State}

/-! ## Reschedule (R203) -/

theorem State.rescheduleIfNeeded_detached (hc : s.conn = none) :
    s.rescheduleIfNeeded = { s with evActive := false } := by
  rcases s.rescheduleIfNeeded_cases with ⟨_, h⟩ | ⟨hsome, _⟩ | ⟨hsome, _⟩
  · exact h
  · simp [hc] at hsome
  · simp [hc] at hsome

theorem State.rescheduleIfNeeded_unchanged (hc : s.conn.isSome = true) (ha : s.evActive = true)
    (hp : s.evPeriod = s.schedulePeriod) : s.rescheduleIfNeeded = s := by
  rcases s.rescheduleIfNeeded_cases with ⟨hnone, _⟩ | ⟨_, hdiff, _⟩ | ⟨_, _, _, h⟩
  · simp [hnone] at hc
  · rcases hdiff with h | h
    · simp [ha] at h
    · exact absurd hp.symm h
  · exact h

theorem State.rescheduleIfNeeded_anew (hc : s.conn.isSome = true)
    (hdiff : ¬ (s.evActive = true ∧ s.evPeriod = s.schedulePeriod)) :
    s.rescheduleIfNeeded = { s with evActive := true, evPeriod := s.schedulePeriod, evElapsed := 0 } := by
  rcases s.rescheduleIfNeeded_cases with ⟨hnone, _⟩ | ⟨_, _, h⟩ | ⟨_, ha, hp, _⟩
  · simp [hnone] at hc
  · exact h
  · exact absurd ⟨ha, hp.symm⟩ hdiff

/-! ## Early invocation (R204, R206, R207) -/

theorem State.transferDue_iff (s : State) :
    s.transferDue = true ↔ s.evActive = true ∧ s.evPeriod ≤ s.evElapsed := by
  simp [State.transferDue]

theorem State.dueCount_eq_zero (h : ¬ (s.evActive = true ∧ s.evPeriod ≤ s.evElapsed)) : s.dueCount = 0 := by
  unfold State.dueCount
  split
  · exact Nat.div_eq_of_lt (not_le.mp fun hdue => h ⟨‹_›, hdue⟩)
  · rfl

theorem State.invokeEarly_not_due (h : ¬ (s.evActive = true ∧ s.evPeriod ≤ s.evElapsed)) : s.invokeEarly = s := by
  rw [State.invokeEarly, State.dueCount_eq_zero h, iterate]

theorem State.invokeEarly_due (hinv : s.Inv) (h : s.evActive = true ∧ s.evPeriod ≤ s.evElapsed) :
    s.invokeEarly = s.performDue.invokeEarly := by
  obtain ⟨hactive, hdue⟩ := h
  rw [State.invokeEarly, ← State.performDue_dueCount hactive (hinv.period_pos hactive) hdue, iterate,
    State.invokeEarly]

/-- Each turn takes one period off the elapsed ticks. -/
theorem iterate_performDue_evElapsed (n : Nat) (s : State) :
    (iterate State.performDue n s).evElapsed = s.evElapsed - n * s.evPeriod := by
  induction n generalizing s with
  | zero => simp [iterate]
  | succ n ih =>
    rw [iterate, ih, s.performDue_frame.evPeriod, State.performDue_evElapsed, Nat.sub_sub, Nat.succ_mul,
      Nat.add_comm]

theorem State.invokeEarly_evElapsed (s : State) :
    s.invokeEarly.evElapsed = if s.evActive then s.evElapsed % s.evPeriod else s.evElapsed := by
  rw [State.invokeEarly, iterate_performDue_evElapsed, State.dueCount]
  split
  · rw [Nat.mod_eq_sub_div_mul]
  · simp

theorem State.invokeEarly_leaves_nothing_due (hinv : s.Inv) :
    ¬ (s.invokeEarly.evActive = true ∧ s.invokeEarly.evPeriod ≤ s.invokeEarly.evElapsed) := by
  rw [State.invokeEarly_evElapsed, s.invokeEarly_frame.evActive, s.invokeEarly_frame.evPeriod]
  rintro ⟨hactive, hdue⟩
  rw [if_pos hactive] at hdue
  exact absurd (Nat.mod_lt s.evElapsed (hinv.period_pos hactive)) (not_lt.mpr hdue)

end Sys2Proof.Machine

namespace Sys2Proof.Proofs

open Sys2Proof Sys2Proof.Machine

/-- Settles O23: the registers as a soft reset writes them schedule 220, and the reschedule decides about the phase. -/
theorem softResetSchedulesTheResetPeriod : Obligations.SoftResetSchedulesTheResetPeriod := by
  intro s
  have hticks : ticksBetweenTransfers 0x0000#16 baudDefault = 220 := by decide
  have hperiod : s.resetRegisters.schedulePeriod = 220 := by
    rw [State.schedulePeriod, State.resetRegisters_mode, State.resetRegisters_baud, hticks]
    rfl
  refine ⟨fun hc => ?_, fun hc => ?_⟩
  · by_cases h : s.evActive = true ∧ s.evPeriod = 220
    · obtain ⟨hactive, hsame⟩ := h
      rw [State.softReset,
        State.rescheduleIfNeeded_unchanged (s := s.resetRegisters) hc hactive (hsame.trans hperiod.symm),
        if_pos ⟨hactive, hsame⟩]
      exact ⟨hactive, hsame, rfl⟩
    · rw [State.softReset, State.rescheduleIfNeeded_anew (s := s.resetRegisters) hc (by rwa [hperiod]), if_neg h]
      exact ⟨rfl, hperiod, rfl⟩
  · rw [State.softReset, State.rescheduleIfNeeded_detached (s := s.resetRegisters) hc]
    exact ⟨rfl, rfl, rfl⟩

/-- Settles O25: rounding down to an even number gives at least the multiplier, or the multiplier itself is taken. -/
theorem periodIsEvenOrTheMultiplier : Obligations.PeriodIsEvenOrTheMultiplier := by
  intro mode baud _ _
  unfold ticksBetweenTransfers
  omega

/-- Settles O26, by the connection and then by whether the event already has the period. -/
theorem rescheduleKeepsOrRestartsTheEvent : Obligations.RescheduleKeepsOrRestartsTheEvent := by
  intro s period hperiod
  have hsched : s.schedulePeriod = period := hperiod.symm
  split_ifs with hc h
  · exact State.rescheduleIfNeeded_detached hc
  · exact State.rescheduleIfNeeded_unchanged (Option.isSome_iff_ne_none.mpr hc) h.1 (h.2.trans hsched.symm)
  · rw [State.rescheduleIfNeeded_anew (Option.isSome_iff_ne_none.mpr hc) (by rwa [hsched]), hsched]

/-- Settles O27, by whether the event is active. -/
theorem tickCountsWhileActive : Obligations.TickCountsWhileActive := by
  intro s hlive
  refine (whenLive_live _ hlive).trans ?_
  rw [State.countTick]
  split <;> rfl

/-- Settles O28, by whether a transfer is due. -/
theorem firePerformsOneDueTransfer : Obligations.FirePerformsOneDueTransfer := by
  intro s hlive
  have hexec : exec .fire s = .next (if s.transferDue = true then s.performDue else s) := whenLive_live _ hlive
  rw [hexec]
  refine ⟨fun h => ?_, fun h => ?_⟩
  · rw [if_pos (s.transferDue_iff.mpr h)]
    rfl
  · rw [if_neg (fun hdue => h (s.transferDue_iff.mp hdue))]

/-- Settles O29: a due transfer performed first leaves one turn fewer, and with none due there is no turn. -/
theorem earlyInvocationIsTheDueLoop : Obligations.EarlyInvocationIsTheDueLoop := by
  intro s hinv
  split_ifs with h
  · exact State.invokeEarly_due hinv h
  · exact State.invokeEarly_not_due h

/-- Settles O30: what is left of the elapsed ticks is a remainder, which is less than the period. -/
theorem earlyInvocationIsIdempotent : Obligations.EarlyInvocationIsIdempotent := by
  intro s hinv
  have hidle := State.invokeEarly_leaves_nothing_due hinv
  refine ⟨s.invokeEarly_evElapsed, ?_, State.invokeEarly_not_due hidle⟩
  rwa [← Bool.not_eq_true, State.transferDue_iff]

end Sys2Proof.Proofs
end

section
/-! PROOFS. The connection agent (44_host_events.md R316, R317) and the host events (R301 to R313): each event is one
update, then a reschedule where the rule asks for one. -/

namespace Sys2Proof.Machine

variable {s : State}

/-! ## `Conn.Read` (R316) -/

theorem State.connRead_too_few {c : Connection} {least : Nat} (most : Nat) (hc : s.conn = some c)
    (h : c.inbound.length < least) : s.connReadBytes most least = [] ∧ s.connRead most least = s := by
  simp [State.connReadBytes, State.connRead, hc, h]

/-- Up to `most` bytes are the first `most` there are. -/
theorem State.connRead_enough {c : Connection} {least : Nat} (most : Nat) (hc : s.conn = some c)
    (h : least ≤ c.inbound.length) :
    s.connReadBytes most least = c.inbound.take most ∧
      s.connRead most least = s.setConn (some { c with inbound := c.inbound.drop most }) := by
  have htake : c.inbound.take (min most c.inbound.length) = c.inbound.take most := by
    rw [List.take_eq_take_iff]; omega
  have hdrop : c.inbound.drop (min most c.inbound.length) = c.inbound.drop most := by
    rw [List.drop_eq_drop_iff]; omega
  simp [State.connReadBytes, State.connRead, hc, Nat.not_lt.mpr h, htake, hdrop]

/-! ## Draws of `Conn.Write` (R317) -/

theorem State.acceptCount_draw {k len : Nat} {later : List Nat} (h : s.acceptDraws = k :: later) (hk : k ≤ len) :
    s.acceptCount len = k := by
  simp [State.acceptCount, h, hk]

/-! ## The construction (R301) -/

theorem State.construct_eq (s : State) :
    s.construct = { { s.powerOn with life := .live }.resetRegisters with evActive := false } :=
  State.rescheduleIfNeeded_detached (s := State.resetRegisters { s.powerOn with life := .live }) rfl

/-- With slot and FIFO empty, no latch set and both mirrors 0, Status shows TXRDY and TXDONE alone. -/
theorem State.construct_status (s : State) : s.construct.status = 0x00000005#32 := by
  rw [State.construct_eq]
  simp [State.status, State.txRdy, State.txDone, State.rxFifoNEmpty, State.powerOn, statusBit]

/-! ## The image (R305, R306) -/

/-- An image holds the strobes of Control as 0, so storing it back loses no bit. -/
theorem State.Inv.storedCtrl_ctrl (hinv : s.Inv) : storedCtrl s.ctrl = s.ctrl := by
  have hmask : ∀ n : Nat, n < 16 → (0xFFAF#16).getLsbD n = !(0x0050#16).getLsbD n := by decide
  ext n hn
  rw [← BitVec.getLsbD_eq_getElem, ← BitVec.getLsbD_eq_getElem, storedCtrl, BitVec.getLsbD_and, hmask n hn]
  cases hstrobe : (0x0050#16).getLsbD n
  · simp
  · simp [hinv.ctrl_strobe_bit hstrobe]

/-- What a LOAD of `m` gives the registers, by field: the reschedule leaves them alone. -/
theorem State.load_after (m : Image) (s : State) :
    s.after (.load m) =
      { s.loadRegisters m with
        evActive := (s.loadRegisters m).rescheduleIfNeeded.evActive
        evPeriod := (s.loadRegisters m).rescheduleIfNeeded.evPeriod
        evElapsed := (s.loadRegisters m).rescheduleIfNeeded.evElapsed } :=
  (s.loadRegisters m).rescheduleIfNeeded_eq

end Sys2Proof.Machine

namespace Sys2Proof.Proofs

open Sys2Proof Sys2Proof.Machine

/-- Settles O48: with no connection and an inactive event most clauses have nothing to ask, and MAX_SLICE_TICKS is a
successor. -/
theorem powerOnMeetsTheInvariant : Obligations.PowerOnMeetsTheInvariant where
  fifo_le := Nat.zero_le _
  period_pos := nofun
  strobes_zero := by decide
  active_iff_attached := rfl
  attached_live := nofun
  slice_pos := Nat.succ_pos _

/-- Settles O52: reads by whether enough bytes are there, writes by the record of the call and its draw. -/
theorem connectionReadsAndWritesInOrder : Obligations.ConnectionReadsAndWritesInOrder := by
  intro s c most least bytes hc
  refine ⟨State.connRead_too_few most hc, State.connRead_enough most hc, ?_, fun k later hk hdraws => ?_⟩
  · rw [State.connWrite_some bytes hc]
    exact ⟨_, s.acceptCount_le _, rfl, rfl⟩
  · rw [State.connWrite_some bytes hc, State.acceptCount_draw hdraws hk]
    simp [hdraws]

/-- Settles O53: power-on leaves no connection, so the reschedule of the construction's reset only deactivates. -/
theorem constructYieldsTheResetState : Obligations.ConstructYieldsTheResetState := by
  intro s hlife
  have hexec : exec .construct s = .next s.construct := if_pos hlife
  exact ⟨s.construct, hexec, s.construct_status, s.construct_eq⟩

/-- Settles O55: ATTACH comes from an inactive event by the invariant, so it schedules anew; DETACH finds no connection
left. -/
theorem attachSchedulesAndDetachDeactivates : Obligations.AttachSchedulesAndDetachDeactivates := by
  intro s hinv hlive
  refine ⟨fun hc => ?_, fun hc => ?_⟩
  · have hinactive : s.evActive = false := by rw [hinv.active_iff_attached, State.connAttached, hc]; rfl
    rw [exec_attach_detached hlive hc, State.rescheduleIfNeeded_anew rfl (by simp [hinactive])]
    rfl
  · have hexec : exec .detach s = .next (s.setConn none).rescheduleIfNeeded := exec_admitted ⟨hlive, hc⟩
    rw [hexec, State.rescheduleIfNeeded_detached rfl]
    rfl

/-- Settles O56: both events are the model's own update. -/
theorem loadAndSaveTransferTheFourRegisters : Obligations.LoadAndSaveTransferTheFourRegisters :=
  fun _ _ hlive => ⟨whenLive_live _ hlive, whenLive_live _ hlive⟩

/-- Settles O57: the latches and mirrors come back from their places in the Status word, and CTRL by the invariant. -/
theorem saveThenLoadRestoresTheRegisters : Obligations.SaveThenLoadRestoresTheRegisters := by
  intro s u hinv hslive hulive
  refine ⟨s.image, u.after (.load s.image), whenLive_live _ hslive, exec_admitted hulive, ?_⟩
  rw [State.load_after]
  refine ⟨hinv.storedCtrl_ctrl, rfl, rfl, ?_⟩
  simp only [State.loadRegisters, State.image, State.status_bit]
  simp

/-- Settles O58: the guard hands each event the attached connection. -/
theorem connectionEventsMoveBytesInOrder : Obligations.ConnectionEventsMoveBytesInOrder := by
  intro s c first rest hlive hc
  rw [List.append_assoc]
  exact ⟨whenAttached_some _ hlive hc, whenAttached_some _ hlive hc, whenAttached_some _ hlive hc,
    whenAttached_some _ hlive hc⟩

end Sys2Proof.Proofs
end

section
/-! PROOFS. One transfer step without a link and of the unframed protocol (42_transfer_unframed.md R240 to R245), the
two pushes it must be told apart from (10_state.md R52) and RaiseInterrupt (60_exceptions.md R343). -/

namespace Sys2Proof.Machine

variable {s : State}

/-! ## The link (44_host_events.md R315) -/

theorem State.linkEstablished_some {c : Connection} (hc : s.conn = some c) : s.linkEstablished = c.up := by
  rw [State.linkEstablished, hc]

theorem State.linkEstablished_of_all_down (h : ∀ c, s.conn = some c → c.up = false) :
    s.linkEstablished = false := by
  cases hc : s.conn with
  | none => rw [State.linkEstablished, hc]
  | some c => rw [State.linkEstablished_some hc, h c hc]

/-- Both protocols stop at their step 1. -/
theorem State.transferStep_unlinked (h : s.linkEstablished = false) : s.transferStep = s.setMirrors false false := by
  have hoff : ¬ s.linkEstablished = true := by simp [h]
  rw [State.transferStep_eq]
  split
  · exact if_neg hoff
  · exact if_neg hoff

theorem State.transferStep_unframed (hproto : s.config.protocol = .unframed) (h : s.linkEstablished = true) :
    s.transferStep = (s.setMirrors true true).unframedReceive.unframedTransmit := by
  rw [State.transferStep_eq, if_pos hproto, State.unframedStep, if_pos h]

/-! ## The unframed receive (R243) -/

/-- With RXEN 0 or no byte inbound nothing is received. -/
theorem State.unframedReceive_idle {c : Connection} (hc : s.conn = some c)
    (h : (s.rxEn && !c.inbound.isEmpty) = false) :
    s.unframedReceive = s := by
  unfold State.unframedReceive
  split
  · have hempty : c.inbound = [] := by simpa [‹s.rxEn = true›] using h
    obtain ⟨hbytes, hstate⟩ := State.connRead_too_few 1 hc (least := 1) (by simp [hempty])
    rw [hbytes, hstate]
  · rfl

theorem State.unframedReceive_byte {up : Bool} {b : Byte} {rest out : List Byte} (hrx : s.rxEn = true)
    (hc : s.conn = some ⟨up, b :: rest, out⟩) :
    s.unframedReceive =
      { s with
        conn := some ⟨up, rest, out⟩
        fifo := (if s.fifo.length = fifoCap then s.fifo.tail else s.fifo) ++ [b]
        rxFifoOverrun := s.rxFifoOverrun || decide (s.fifo.length = fifoCap)
        intr := s.intr || s.rxIntEn
        events := s.events ++ if s.rxIntEn then [.requestInterrupt s.config.irqChannel] else [] } := by
  obtain ⟨hbytes, hstate⟩ := State.connRead_enough 1 hc (least := 1) (by simp)
  rw [State.unframedReceive, if_pos hrx, hbytes, hstate]
  simp only [List.take_succ_cons, State.pushEvictOldest_eq, State.raiseIf_eq]
  rfl

/-- Everything the receive does, whether or not it takes a byte. -/
theorem State.unframedReceive_eq {up receives : Bool} {inbound out : List Byte}
    (hc : s.conn = some ⟨up, inbound, out⟩) (hr : (s.rxEn && !inbound.isEmpty) = receives) :
    s.unframedReceive =
      { s with
        conn := some ⟨up, if receives then inbound.drop 1 else inbound, out⟩
        fifo :=
          if receives then (if s.fifo.length = fifoCap then s.fifo.drop 1 else s.fifo) ++ inbound.take 1 else s.fifo
        rxFifoOverrun := s.rxFifoOverrun || (receives && decide (s.fifo.length = fifoCap))
        intr := s.intr || (receives && s.rxIntEn)
        events := s.events ++ if receives && s.rxIntEn then [.requestInterrupt s.config.irqChannel] else [] } := by
  cases receives with
  | false =>
    rw [State.unframedReceive_idle hc hr]
    simp [← hc]
  | true =>
    obtain ⟨hrx, hne⟩ := Bool.and_eq_true_iff.mp hr
    obtain ⟨b, rest, rfl⟩ : ∃ b rest, inbound = b :: rest := List.exists_cons_of_ne_nil (by simpa using hne)
    rw [State.unframedReceive_byte hrx hc]
    simp

/-! ## The unframed transmit (R244) -/

theorem State.unframedTransmit_idle (h : (s.txEn && s.txFull) = false) : s.unframedTransmit = s :=
  if_neg (by simp [h])

/-- Everything the transmit does, whether or not the slot is sent. -/
theorem State.unframedTransmit_eq {up sends : Bool} {inbound out : List Byte}
    (hc : s.conn = some ⟨up, inbound, out⟩) (hs : (s.txEn && s.txFull) = sends) :
    s.unframedTransmit =
      { s with
        conn := some ⟨up, inbound, if sends then out ++ [s.txByte].take (s.acceptCount 1) else out⟩
        txFull := s.txFull && !sends
        intr := s.intr || (sends && s.txIntEn)
        events := s.events ++ (if sends then [.connWrite [s.txByte] (s.acceptCount 1)] else []) ++
          (if sends && s.txIntEn then [.requestInterrupt s.config.irqChannel] else [])
        acceptDraws := if sends then s.acceptDraws.drop 1 else s.acceptDraws
        drawCount := if sends && s.acceptDraws.isEmpty then s.drawCount + 1 else s.drawCount } := by
  cases sends with
  | false =>
    rw [State.unframedTransmit_idle hs]
    simp [← hc]
  | true =>
    have hdraws : ∀ n, n + (if s.acceptDraws = [] then 1 else 0) = if s.acceptDraws.isEmpty then n + 1 else n := by
      intro n; cases s.acceptDraws <;> rfl
    rw [State.unframedTransmit, if_pos hs, State.connWrite_some _ hc, State.raiseIf_eq, hdraws]
    simp [State.clearSlot, State.txIntEn]

end Sys2Proof.Machine

namespace Sys2Proof.Proofs

open Sys2Proof Sys2Proof.Machine

/-- Settles O32: no link is established, and step 1 of either protocol ends there. -/
theorem stepWithoutLinkOnlyClearsTheMirrors : Obligations.StepWithoutLinkOnlyClearsTheMirrors :=
  fun _ h => State.transferStep_unlinked (State.linkEstablished_of_all_down h)

/-- Settles O34: the records of the two pushes, with the FIFO full and with room in it. -/
theorem overrunPoliciesStayDistinct : Obligations.OverrunPoliciesStayDistinct := by
  intro s b
  refine ⟨fun hfull => ?_, fun hroom => ?_, fun hcap => ⟨?_, ?_⟩⟩
  · simp [State.pushEvictOldest_eq, State.pushDropNew_eq, fifoCap, hfull]
  · simp [State.pushEvictOldest_eq, State.pushDropNew_eq, fifoCap, hroom, hroom.ne, Nat.not_le.mpr hroom]
  · exact (s.pushEvictOldest_frame b).fifo_le hcap
  · exact (s.pushDropNew_frame b).fifo_le hcap

/-- Settles O33, by whether a byte is received and whether the slot is sent. -/
theorem unframedStepReceivesThenSends : Obligations.UnframedStepReceivesThenSends := by
  intro s ⟨up, inbound, outbound⟩ hproto hc hup
  cases hup
  refine ⟨s.acceptCount 1, s.acceptCount_le 1, ?_⟩
  intro receives sends call
  rw [State.transferStep_unframed hproto (State.linkEstablished_some hc),
    State.unframedReceive_eq (s := s.setMirrors true true) (receives := receives) hc rfl]
  exact State.unframedTransmit_eq (sends := sends) rfl rfl

/-- Settles O41: it is the model's own update. -/
theorem raiseInterruptLatchesAndCallsTheSink : Obligations.RaiseInterruptLatchesAndCallsTheSink :=
  fun _ => rfl

end Sys2Proof.Proofs
end

section
/-! PROOFS. The framed step (43_transfer_framed.md R270 to R275): the drain takes every complete frame in turn, so what
it does to each field is an induction over the frames; then one frame is sent. -/

namespace Sys2Proof.Machine

variable {s : State}

/-! ## One frame (R272, R273) -/

/-- Everything `takeFrame` does, as one record. -/
theorem State.takeFrame_eq (flags data : Byte) (s : State) :
    s.takeFrame flags data =
      { s with
        fifo := if flagHasData flags = true ∧ s.fifo.length < fifoCap then s.fifo ++ [data] else s.fifo
        rxFifoOverrun := s.rxFifoOverrun || (flagHasData flags && decide (fifoCap ≤ s.fifo.length))
        intr := s.intr || (flagHasData flags && s.rxIntEn)
        events := s.events ++
          if flagHasData flags = true ∧ s.rxIntEn = true then [.requestInterrupt s.config.irqChannel] else []
        dtrIn := flagDtr flags
        ctsIn := flagCts flags } := by
  simp only [State.takeFrame, State.pushDropNew_eq, State.raiseIf_eq, State.setMirrors]
  cases flagHasData flags <;> simp [State.rxIntEn]

/-- A frame without data moves the mirrors only. -/
theorem State.takeFrame_empty {flags : Byte} (data : Byte) (h : flagHasData flags = false) (s : State) :
    s.takeFrame flags data = s.setMirrors (flagDtr flags) (flagCts flags) := by
  simp [State.takeFrame, h]

theorem State.drainFrame_takeFrame {up : Bool} {flags data : Byte} {rest out : List Byte}
    (h : s.conn = some ⟨up, flags :: data :: rest, out⟩) :
    s.drainFrame = (s.setConn (some ⟨up, rest, out⟩)).takeFrame flags data := by
  rw [State.drainFrame_some h, State.takeFrame_eq]
  rfl

/-! ## All frames in turn -/

/-- The frames of a drain, taken in turn. -/
def State.takeFrames : List (Byte × Byte) → State → State
  | [], s => s
  | f :: fs, s => State.takeFrames fs (s.takeFrame f.1 f.2)

theorem State.takeFrames_append (fs gs : List (Byte × Byte)) (s : State) :
    s.takeFrames (fs ++ gs) = (s.takeFrames fs).takeFrames gs := by
  induction fs generalizing s with
  | nil => rfl
  | cons f fs ih => exact ih _

/-- What every frame leaves alone, the whole drain leaves alone. -/
theorem State.takeFrames_keeps {α : Type} (field : State → α)
    (h : ∀ flags data s, field (s.takeFrame flags data) = field s) (fs : List (Byte × Byte)) (s : State) :
    field (s.takeFrames fs) = field s := by
  induction fs generalizing s with
  | nil => rfl
  | cons f fs ih => exact (ih _).trans (h f.1 f.2 s)

@[simp] theorem State.takeFrames_config (fs : List (Byte × Byte)) (s : State) :
    (s.takeFrames fs).config = s.config :=
  State.takeFrames_keeps State.config (fun _ _ _ => by rw [State.takeFrame_eq]) fs s

@[simp] theorem State.takeFrames_ctrl (fs : List (Byte × Byte)) (s : State) : (s.takeFrames fs).ctrl = s.ctrl :=
  State.takeFrames_keeps State.ctrl (fun _ _ _ => by rw [State.takeFrame_eq]) fs s

@[simp] theorem State.takeFrames_txFull (fs : List (Byte × Byte)) (s : State) : (s.takeFrames fs).txFull = s.txFull :=
  State.takeFrames_keeps State.txFull (fun _ _ _ => by rw [State.takeFrame_eq]) fs s

@[simp] theorem State.takeFrames_txByte (fs : List (Byte × Byte)) (s : State) : (s.takeFrames fs).txByte = s.txByte :=
  State.takeFrames_keeps State.txByte (fun _ _ _ => by rw [State.takeFrame_eq]) fs s

@[simp] theorem State.takeFrames_conn (fs : List (Byte × Byte)) (s : State) : (s.takeFrames fs).conn = s.conn :=
  State.takeFrames_keeps State.conn (fun _ _ _ => by rw [State.takeFrame_eq]) fs s

theorem State.takeFrame_setConn (c : Option Connection) (flags data : Byte) (s : State) :
    (s.setConn c).takeFrame flags data = (s.takeFrame flags data).setConn c := by
  rw [State.takeFrame_eq, State.takeFrame_eq]
  rfl

theorem State.takeFrames_setConn (c : Option Connection) (fs : List (Byte × Byte)) (s : State) :
    (s.setConn c).takeFrames fs = (s.takeFrames fs).setConn c := by
  induction fs generalizing s with
  | nil => rfl
  | cons f fs ih => rw [State.takeFrames, State.takeFrame_setConn, ih, State.takeFrames]

/-! ## What the frames do to each field -/

theorem frameData_nil : frameData [] = [] := rfl

theorem frameData_cons_data {f : Byte × Byte} (fs : List (Byte × Byte)) (h : flagHasData f.1 = true) :
    frameData (f :: fs) = f.2 :: frameData fs := by
  have hbit : f.1.getLsbD 0 = true := h
  simp only [frameData, List.filter_cons, hbit, if_true, List.map_cons]

theorem frameData_cons_empty {f : Byte × Byte} (fs : List (Byte × Byte)) (h : flagHasData f.1 = false) :
    frameData (f :: fs) = frameData fs := by
  have hbit : f.1.getLsbD 0 = false := h
  simp only [frameData, List.filter_cons, hbit, Bool.false_eq_true, if_false]

/-- The data bytes fill the FIFO in order as far as there is room; the overrun latch tells whether one was dropped. -/
theorem State.takeFrames_fifo (fs : List (Byte × Byte)) {s : State} (hcap : s.fifo.length ≤ fifoCap) :
    (s.takeFrames fs).fifo = (s.fifo ++ frameData fs).take fifoCap ∧
      (s.takeFrames fs).rxFifoOverrun =
        (s.rxFifoOverrun || decide (fifoCap < s.fifo.length + (frameData fs).length)) := by
  induction fs generalizing s with
  | nil => simp [State.takeFrames, frameData, List.take_of_length_le hcap, Nat.not_lt.mpr hcap]
  | cons f fs ih =>
    rw [State.takeFrames]
    cases hdata : flagHasData f.1 with
    | false =>
      rw [State.takeFrame_empty f.2 hdata, frameData_cons_empty fs hdata]
      exact ih hcap
    | true =>
      rw [frameData_cons_data fs hdata]
      by_cases hroom : s.fifo.length < fifoCap
      · have hfifo : (s.takeFrame f.1 f.2).fifo = s.fifo ++ [f.2] := by simp [State.takeFrame_eq, hdata, hroom]
        have hover : (s.takeFrame f.1 f.2).rxFifoOverrun = s.rxFifoOverrun := by
          simp [State.takeFrame_eq, hdata, Nat.not_le.mpr hroom]
        obtain ⟨htail, hlatch⟩ := ih (s := s.takeFrame f.1 f.2) (by simpa [hfifo] using hroom)
        rw [htail, hlatch, hfifo, hover]
        simp [Nat.add_assoc, Nat.add_comm 1]
      · have hfull : s.fifo.length = fifoCap := by omega
        have hfifo : (s.takeFrame f.1 f.2).fifo = s.fifo := by simp [State.takeFrame_eq, hroom]
        have hover : (s.takeFrame f.1 f.2).rxFifoOverrun = true := by simp [State.takeFrame_eq, hdata, hfull]
        obtain ⟨htail, hlatch⟩ := ih (s := s.takeFrame f.1 f.2) (by rwa [hfifo])
        rw [htail, hlatch, hfifo, hover]
        simp [hfull]

/-- How often these frames call the sink: once for each data frame where RXINTEN is set (R272, D20). -/
def State.frameCalls (s : State) (fs : List (Byte × Byte)) : Nat := if s.rxIntEn then (frameData fs).length else 0

theorem State.frameCalls_cons (s : State) (f : Byte × Byte) (fs : List (Byte × Byte)) :
    s.frameCalls (f :: fs) = s.frameCalls [f] + s.frameCalls fs := by
  have hdata : frameData (f :: fs) = frameData [f] ++ frameData fs := by
    rw [frameData, ← List.singleton_append, List.filter_append, List.map_append, frameData, frameData]
  rw [State.frameCalls, State.frameCalls, State.frameCalls, hdata, List.length_append]
  split <;> rfl

theorem State.takeFrame_outputs (f : Byte × Byte) (s : State) :
    (s.takeFrame f.1 f.2).events =
        s.events ++ List.replicate (s.frameCalls [f]) (.requestInterrupt s.config.irqChannel) ∧
      (s.takeFrame f.1 f.2).intr = (s.intr || decide (0 < s.frameCalls [f])) := by
  rw [State.takeFrame_eq, State.frameCalls]
  cases hdata : flagHasData f.1 with
  | false => simp [frameData_cons_empty [] hdata, frameData_nil]
  | true => cases s.rxIntEn <;> simp [frameData_cons_data [] hdata, frameData_nil]

theorem State.takeFrames_outputs (fs : List (Byte × Byte)) (s : State) :
    (s.takeFrames fs).events =
        s.events ++ List.replicate (s.frameCalls fs) (.requestInterrupt s.config.irqChannel) ∧
      (s.takeFrames fs).intr = (s.intr || decide (0 < s.frameCalls fs)) := by
  induction fs generalizing s with
  | nil => simp [State.takeFrames, State.frameCalls, frameData]
  | cons f fs ih =>
    obtain ⟨hevents, hintr⟩ := ih (s.takeFrame f.1 f.2)
    obtain ⟨hevent, hlatch⟩ := s.takeFrame_outputs f
    have hcalls : (s.takeFrame f.1 f.2).frameCalls fs = s.frameCalls fs := by rw [State.takeFrame_eq]; rfl
    have hconfig : (s.takeFrame f.1 f.2).config = s.config := by rw [State.takeFrame_eq]
    rw [State.takeFrames, hevents, hintr, hevent, hlatch, hcalls, hconfig, s.frameCalls_cons f fs]
    simp [List.replicate_append_replicate, Bool.or_assoc]

/-- The mirrors are those of the last frame (R273). -/
theorem State.takeFrames_mirrors {fs : List (Byte × Byte)} {f : Byte × Byte} (h : fs.getLast? = some f) (s : State) :
    (s.takeFrames fs).dtrIn = flagDtr f.1 ∧ (s.takeFrames fs).ctsIn = flagCts f.1 := by
  obtain ⟨before, rfl⟩ := List.getLast?_eq_some_iff.mp h
  rw [State.takeFrames_append]
  exact ⟨rfl, rfl⟩

/-! ## The drain (R271 step 2) -/

/-- What a drain leaves inbound: no byte, or the last one where their number is odd. -/
def oddByte (bytes : List Byte) : List Byte := bytes.drop (bytes.length - bytes.length % 2)

theorem State.two_available (h : 2 ≤ s.available) :
    ∃ up flags data rest out, s.conn = some ⟨up, flags :: data :: rest, out⟩ := by
  unfold State.available at h
  split at h
  · rename_i c hc
    obtain ⟨up, inbound, out⟩ := c
    match inbound with
    | flags :: data :: rest => exact ⟨up, flags, data, rest, out, hc⟩
    | [_] => simp at h
    | [] => simp at h
  · omega

theorem State.available_some {c : Connection} (hc : s.conn = some c) : s.available = c.inbound.length := by
  rw [State.available, hc]

/-- One turn of the loop, and what is left of it. -/
theorem State.drainFrames_turn (h : 2 ≤ s.available) : s.drainFrames = s.drainFrame.drainFrames := by
  obtain ⟨up, flags, data, rest, out, hc⟩ := State.two_available h
  have hleft : s.drainFrame.conn = some ⟨up, rest, out⟩ := by rw [State.drainFrame_some hc]
  have hafter : s.drainFrame.available = rest.length := State.available_some hleft
  have hturns : s.available / 2 = s.drainFrame.available / 2 + 1 := by
    rw [hafter, State.available_some hc, List.length_cons, List.length_cons]
    omega
  rw [State.drainFrames, hturns, iterate, State.drainFrames]

theorem State.drainFrames_eq {up : Bool} {inbound out : List Byte} (hc : s.conn = some ⟨up, inbound, out⟩) :
    s.drainFrames = (s.takeFrames (inboundFrames inbound)).setConn (some ⟨up, oddByte inbound, out⟩) := by
  induction inbound using inboundFrames.induct generalizing s with
  | case1 flags data rest ih =>
    have hodd : oddByte (flags :: data :: rest) = oddByte rest := by
      have hmod : (rest.length + 2) % 2 = rest.length % 2 := by omega
      have hlen : rest.length + 2 - rest.length % 2 = rest.length - rest.length % 2 + 2 := by omega
      simp [oddByte, hmod, hlen]
    rw [State.drainFrames_turn (by simp [State.available_some hc]), State.drainFrame_takeFrame hc,
      State.takeFrame_setConn, ih rfl, State.takeFrames_setConn, hodd, inboundFrames, State.takeFrames]
    rfl
  | case2 short hshort =>
    have hlen : short.length < 2 := by
      match short with
      | [] | [_] => simp
      | b0 :: b1 :: rest => exact (hshort b0 b1 rest rfl).elim
    have hnone : inboundFrames short = [] := inboundFrames.eq_2 short hshort
    have hodd : oddByte short = short := by simp [oddByte, Nat.mod_eq_of_lt hlen]
    rw [State.drainFrames_short (by rwa [State.available_some hc]), hnone, hodd, ← hc]
    rfl

/-- The loop leaves fewer bytes than a frame has, and so nothing of it to do again. -/
theorem State.drainFrames_available_lt (s : State) : s.drainFrames.available < 2 := by
  cases hc : s.conn with
  | none =>
    have havailable : s.available = 0 := by rw [State.available, hc]
    rw [State.drainFrames_short (by omega), havailable]
    omega
  | some c =>
    rw [State.drainFrames_eq hc, State.available_some rfl, oddByte, List.length_drop]
    omega

/-! ## The frame sent (R274) -/

/-- One flag bit of a byte, at its place. -/
theorem flag_bit (p : Prop) [Decidable p] {place : Nat} (hplace : place < 8) (n : Nat) :
    (if p then BitVec.twoPow 8 place else 0x00#8).getLsbD n = (decide (n = place) && decide p) := by
  split <;> simp [*, eq_comm]

theorem State.outFlags_bit (s : State) (n : Nat) :
    s.outFlags.getLsbD n =
      if n = 0 then s.txFull
      else if n = 1 then s.dtrOut
      else if n = 2 then decide (s.fifo.length < fifoCap)
      else false := by
  have hbytes : s.outFlags =
      (if s.fifo.length < fifoCap then BitVec.twoPow 8 2 else 0x00#8) |||
        (if s.dtrOut = true then BitVec.twoPow 8 1 else 0x00#8) |||
        (if s.txFull = true then BitVec.twoPow 8 0 else 0x00#8) := rfl
  rw [hbytes, BitVec.getLsbD_or, BitVec.getLsbD_or, flag_bit _ (by decide), flag_bit _ (by decide),
    flag_bit _ (by decide)]
  split_ifs <;> simp_all

/-! ## The whole step (R271) -/

/-- Everything a framed step over an established link does, by the state `drained` after its drain. -/
theorem State.transferStep_framed {c : Connection} {drained : State} (hproto : s.config.protocol = .framed)
    (hc : s.conn = some c) (hup : c.up = true)
    (hdrained : drained =
      (s.takeFrames (inboundFrames c.inbound)).setConn (some { c with inbound := oddByte c.inbound })) :
    s.transferStep =
      { drained with
        txFull := false
        intr := drained.intr || (s.txFull && s.txIntEn)
        conn := some
          { c with
            inbound := oddByte c.inbound
            outbound := c.outbound ++ [drained.outFlags, s.outData].take (drained.acceptCount 2) }
        events := drained.events ++ (if s.txFull && s.txIntEn then [.requestInterrupt s.config.irqChannel] else [])
          ++ [.connWrite [drained.outFlags, s.outData] (drained.acceptCount 2)]
        acceptDraws := drained.acceptDraws.tail
        drawCount := drained.drawCount + if drained.acceptDraws = [] then 1 else 0 } := by
  have hstep : s.transferStep = drained.framedTransmit := by
    rw [State.transferStep_eq, if_neg (by simp [hproto]), State.framedStep,
      if_pos ((State.linkEstablished_some hc).trans hup), State.drainFrames_eq hc, hdrained]
  have hconn : drained.conn = some { c with inbound := oddByte c.inbound } := by rw [hdrained, State.setConn_conn]
  have hslot : drained.txFull = s.txFull := by simp [hdrained]
  have hconfig : drained.config = s.config := by simp [hdrained]
  have henable : drained.txIntEn = s.txIntEn := by simp [hdrained, State.txIntEn]
  have hdata : drained.outData = s.outData := by simp [hdrained, State.outData]
  rw [hstep, State.framedTransmit_some hconn, hslot, hconfig, henable, hdata]

/-! ## The Control bits a framed step reads (D19, D33) -/

theorem State.takeFrames_setCtrl {v : Half} (fs : List (Byte × Byte)) {s : State}
    (hrx : (s.setCtrl v).rxIntEn = s.rxIntEn) : (s.setCtrl v).takeFrames fs = (s.takeFrames fs).setCtrl v := by
  induction fs generalizing s with
  | nil => rfl
  | cons f fs ih =>
    have hframe : (s.setCtrl v).takeFrame f.1 f.2 = (s.takeFrame f.1 f.2).setCtrl v := by
      rw [State.takeFrame_eq, State.takeFrame_eq, hrx]
      rfl
    have hkept : (s.takeFrame f.1 f.2).rxIntEn = s.rxIntEn := by rw [State.takeFrame_eq]; rfl
    rw [State.takeFrames, hframe, ih (s := s.takeFrame f.1 f.2) (hrx.trans hkept.symm), State.takeFrames]

theorem State.transferStep_setCtrl {v : Half} (hproto : s.config.protocol = .framed)
    (hdtr : (s.setCtrl v).dtrOut = s.dtrOut) (htx : (s.setCtrl v).txIntEn = s.txIntEn)
    (hrx : (s.setCtrl v).rxIntEn = s.rxIntEn) : (s.setCtrl v).transferStep = s.transferStep.setCtrl v := by
  cases hlink : s.linkEstablished with
  | false =>
    rw [State.transferStep_unlinked hlink, State.transferStep_unlinked (s := s.setCtrl v) hlink]
    rfl
  | true =>
    obtain ⟨c, hc, hup⟩ : ∃ c, s.conn = some c ∧ c.up = true := by
      cases hc : s.conn with
      | none => simp [State.linkEstablished, hc] at hlink
      | some c => exact ⟨c, rfl, by rwa [State.linkEstablished_some hc] at hlink⟩
    obtain ⟨drained, hdrained⟩ : ∃ drained, drained =
      (s.takeFrames (inboundFrames c.inbound)).setConn (some { c with inbound := oddByte c.inbound }) := ⟨_, rfl⟩
    have hboth : drained.setCtrl v = ((s.setCtrl v).takeFrames (inboundFrames c.inbound)).setConn
        (some { c with inbound := oddByte c.inbound }) := by
      rw [State.takeFrames_setCtrl _ hrx, hdrained]
      rfl
    have hflags : (drained.setCtrl v).outFlags = drained.outFlags := by
      have hkept : drained.dtrOut = s.dtrOut := by simp [hdrained, State.dtrOut]
      have hnew : (drained.setCtrl v).dtrOut = drained.dtrOut := hdtr.trans hkept.symm
      rw [State.outFlags, State.outFlags, hnew]
      rfl
    rw [State.transferStep_framed hproto hc hup hdrained,
      State.transferStep_framed (s := s.setCtrl v) hproto hc hup hboth, hflags, htx]
    rfl

end Sys2Proof.Machine

namespace Sys2Proof.Proofs

open Sys2Proof Sys2Proof.Machine

/-- Settles O35: one turn takes one frame, and what is left has fewer bytes than a frame. -/
theorem framedDrainIsTheAvailableLoop : Obligations.FramedDrainIsTheAvailableLoop := by
  intro s
  refine ⟨?_, s.drainFrames_available_lt⟩
  split_ifs with h
  · exact State.drainFrames_turn h
  · exact State.drainFrames_short (by omega)

/-- Settles O36: the frames fill the FIFO before the frame is sent, which touches neither FIFO nor inbound stream. -/
theorem framedStepStoresTheDataThatFits : Obligations.FramedStepStoresTheDataThatFits := by
  intro s c hproto hc hup hcap data
  obtain ⟨hfifo, hover⟩ := State.takeFrames_fifo (inboundFrames c.inbound) hcap
  rw [State.transferStep_framed hproto hc hup rfl]
  exact ⟨hfifo, hover, _, rfl, hup, rfl⟩

/-- Settles O37: the last frame taken wrote the mirrors last. -/
theorem framedMirrorsFollowTheLastFrame : Obligations.FramedMirrorsFollowTheLastFrame := by
  intro s c hproto hc hup
  rw [State.transferStep_framed hproto hc hup rfl]
  refine ⟨fun frame hlast => State.takeFrames_mirrors hlast s, fun hnone => ?_⟩
  rw [hnone]
  exact ⟨rfl, rfl⟩

/-- Settles O38: the calls of the drain are calls of the sink alone, and the frame is sent with the flags of the state
after it. -/
theorem framedStepSendsExactlyOneFrame : Obligations.FramedStepSendsExactlyOneFrame := by
  intro s c hproto hc hup
  obtain ⟨drained, hdrained⟩ : ∃ drained, drained =
    (s.takeFrames (inboundFrames c.inbound)).setConn (some { c with inbound := oddByte c.inbound }) := ⟨_, rfl⟩
  obtain ⟨hevents, _⟩ := s.takeFrames_outputs (inboundFrames c.inbound)
  rw [State.transferStep_framed hproto hc hup hdrained]
  refine ⟨drained.outFlags, drained.acceptCount 2,
    List.replicate (s.frameCalls (inboundFrames c.inbound)) (.requestInterrupt s.config.irqChannel), _, fun n => ?_,
    drained.acceptCount_le 2, ?_, ?_, rfl, rfl, rfl, fun hfull hint => ?_⟩
  · have hslot : drained.txFull = s.txFull := by simp [hdrained]
    have hdtr : drained.dtrOut = s.dtrOut := by simp [hdrained, State.dtrOut]
    rw [drained.outFlags_bit n, hslot, hdtr]
    rfl
  · rw [← hevents, hdrained]
    rfl
  · simp [List.countP_replicate, Event.isConnWrite]
  · simp [hfull, hint]

/-- Settles O39: the sink calls of the drain, one for each data frame, then the one for the byte sent. -/
theorem framedStepInterruptsOncePerDataFrame : Obligations.FramedStepInterruptsOncePerDataFrame := by
  intro s c hproto hc hup received sent
  obtain ⟨hevents, hintr⟩ := s.takeFrames_outputs (inboundFrames c.inbound)
  have hreceived : s.frameCalls (inboundFrames c.inbound) = received := rfl
  have hsent : (if s.txFull && s.txIntEn then [.requestInterrupt s.config.irqChannel] else []) =
      List.replicate sent (Event.requestInterrupt s.config.irqChannel) := by
    simp only [sent]; split <;> rfl
  have hsend : (s.txFull && s.txIntEn) = decide (0 < sent) := by
    cases h : s.txFull && s.txIntEn <;> simp [sent, h]
  have hcalls : (s.takeFrames (inboundFrames c.inbound)).events ++
      (if s.txFull && s.txIntEn then [.requestInterrupt s.config.irqChannel] else []) =
      s.events ++ List.replicate (received + sent) (.requestInterrupt s.config.irqChannel) := by
    rw [hevents, hreceived, hsent, List.append_assoc, List.replicate_append_replicate]
  have hlatch : ((s.takeFrames (inboundFrames c.inbound)).intr || (s.txFull && s.txIntEn)) =
      (s.intr || decide (0 < received + sent)) := by
    rw [hintr, hreceived, hsend]
    simp [Bool.or_assoc]
  rw [State.transferStep_framed hproto hc hup rfl]
  exact ⟨⟨_, _, congrArg (· ++ _) hcalls⟩, hlatch⟩

/-- Settles O40: without a link no bit is read; with one, drain and frame see the three bits alone. -/
theorem framedStepReadsOnlyThreeControlBits : Obligations.FramedStepReadsOnlyThreeControlBits := by
  intro s other hproto hdtr htx hrx
  exact State.transferStep_setCtrl hproto hdtr htx hrx

end Sys2Proof.Proofs
end

section
/-! PROOFS. The rules about every operation (section "Whole-machine rules" of the statements): each reads the next state
that `State.after` names, so first what it does to each field is said once, by the operations that can write it. -/

namespace Sys2Proof.Machine

variable {s : State}

/-! ## What a reschedule and a soft reset keep (41_scheduler.md R203, 70_reset_and_hazards.md R380) -/

section
variable (s : State)

@[simp] theorem State.rescheduleIfNeeded_life : s.rescheduleIfNeeded.life = s.life := by rw [s.rescheduleIfNeeded_eq]
@[simp] theorem State.rescheduleIfNeeded_config : s.rescheduleIfNeeded.config = s.config := by
  rw [s.rescheduleIfNeeded_eq]
@[simp] theorem State.rescheduleIfNeeded_ctrl : s.rescheduleIfNeeded.ctrl = s.ctrl := by rw [s.rescheduleIfNeeded_eq]
@[simp] theorem State.rescheduleIfNeeded_mode : s.rescheduleIfNeeded.mode = s.mode := by rw [s.rescheduleIfNeeded_eq]
@[simp] theorem State.rescheduleIfNeeded_baud : s.rescheduleIfNeeded.baud = s.baud := by rw [s.rescheduleIfNeeded_eq]
@[simp] theorem State.rescheduleIfNeeded_rxParity : s.rescheduleIfNeeded.rxParity = s.rxParity := by
  rw [s.rescheduleIfNeeded_eq]
@[simp] theorem State.rescheduleIfNeeded_rxBadStopBit : s.rescheduleIfNeeded.rxBadStopBit = s.rxBadStopBit := by
  rw [s.rescheduleIfNeeded_eq]
@[simp] theorem State.rescheduleIfNeeded_intr : s.rescheduleIfNeeded.intr = s.intr := by rw [s.rescheduleIfNeeded_eq]
@[simp] theorem State.rescheduleIfNeeded_conn : s.rescheduleIfNeeded.conn = s.conn := by rw [s.rescheduleIfNeeded_eq]
@[simp] theorem State.rescheduleIfNeeded_events : s.rescheduleIfNeeded.events = s.events := by
  rw [s.rescheduleIfNeeded_eq]
@[simp] theorem State.rescheduleIfNeeded_peerResults : s.rescheduleIfNeeded.peerResults = s.peerResults := by
  rw [s.rescheduleIfNeeded_eq]

@[simp] theorem State.softReset_config : s.softReset.config = s.config := s.resetRegisters.rescheduleIfNeeded_config
@[simp] theorem State.softReset_intr : s.softReset.intr = false := s.resetRegisters.rescheduleIfNeeded_intr
@[simp] theorem State.softReset_rxParity : s.softReset.rxParity = false := s.resetRegisters.rescheduleIfNeeded_rxParity
@[simp] theorem State.softReset_rxBadStopBit : s.softReset.rxBadStopBit = false :=
  s.resetRegisters.rescheduleIfNeeded_rxBadStopBit
@[simp] theorem State.softReset_events : s.softReset.events = s.events := s.resetRegisters.rescheduleIfNeeded_events
@[simp] theorem State.softReset_peerResults : s.softReset.peerResults = s.peerResults :=
  s.resetRegisters.rescheduleIfNeeded_peerResults

end

/-! ## The operations within the frame of a transfer -/

theorem State.emit_frame (e : Event) (s : State) : TransferFrame s (s.emit e) :=
  { TransferFrame.refl s with outputs := ⟨[e], rfl, .inl⟩ }

theorem State.mapConn_frame (f : Connection → Connection) (s : State) : TransferFrame s (s.mapConn f) :=
  { TransferFrame.refl s with attached := Option.isSome_map }

theorem State.countTick_frame (s : State) : TransferFrame s s.countTick := by
  unfold State.countTick
  split
  · exact { TransferFrame.refl s with }
  · exact .refl s

/-- No read policy makes the FIFO longer. -/
theorem State.dataReadFifo_length_le (s : State) : s.dataReadFifo.length ≤ s.fifo.length := by
  unfold State.dataReadFifo
  split
  · exact le_rfl
  · unfold fifoAfterRead
    split <;> simp

theorem State.readData_frame (s : State) : TransferFrame s s.readData :=
  { TransferFrame.refl s with
    fifo_le := s.dataReadFifo_length_le.trans
    outputs := ⟨[_], rfl, .inl⟩ }

/-- The operations that write no register, no schedule but the elapsed ticks, and fill no slot. -/
def Instr.withinFrame : Instr → Bool
  | .rdData | .rdStat | .rdMode | .rdCtrl | .rdBaud | .rdUnk _ | .wrStat _ | .wrUnk _ _ => true
  | .tick | .fire | .save | .linkUp | .linkDown | .peerSend _ _ => true
  | .wrData _ | .wrMode _ | .wrCtrl _ | .wrBaud _ => false
  | .construct | .shutdown | .attach | .detach | .load _ | .peerRecv => false

theorem State.after_frame {i : Instr} (s : State) (h : Instr.withinFrame i = true) : TransferFrame s (s.after i) := by
  cases i with
  | rdData => exact s.invokeEarly_frame.trans (State.readData_frame _)
  | rdStat => exact s.invokeEarly_frame.trans (State.emit_frame _ _)
  | rdMode | rdCtrl | rdBaud | rdUnk _ | save => exact s.emit_frame _
  | wrStat _ | wrUnk _ _ => exact .refl s
  | tick => exact s.countTick_frame
  | fire =>
    show TransferFrame s (if s.transferDue = true then s.performDue else s)
    split
    · exact s.performDue_frame
    · exact .refl s
  | linkUp | linkDown | peerSend _ _ => exact s.mapConn_frame _
  | wrData _ | wrMode _ | wrCtrl _ | wrBaud _ => cases h
  | construct | shutdown | attach | detach | load _ | peerRecv => cases h

/-! ## A Control write, by its RESET bit (R151) -/

theorem State.after_wrCtrl_keep {value : Word} (s : State) (h : value.getLsbD 6 = false) :
    s.after (.wrCtrl value) =
      { s with
        ctrl := storedCtrl (lowHalf value)
        rxParity := s.rxParity && !value.getLsbD 4
        rxFifoOverrun := s.rxFifoOverrun && !value.getLsbD 4
        rxBadStopBit := s.rxBadStopBit && !value.getLsbD 4
        intr := s.intr && !value.getLsbD 4
        fifo := if enableCleared s.config.enableClearSense s.rxEn (value.getLsbD 2) then [] else s.fifo
        txFull := s.txFull && !enableCleared s.config.enableClearSense s.txEn (value.getLsbD 0) } := by
  rw [State.after, State.writeCtrl_keep s (by rw [lowHalf_bit value (by decide), h]), lowHalf_bit value (by decide),
    lowHalf_bit value (by decide), lowHalf_bit value (by decide)]

theorem State.writeCtrl_config (v : Half) (s : State) : (s.writeCtrl v).config = s.config := by
  cases h : v.getLsbD 6
  · rw [State.writeCtrl_keep s h]
  · rw [State.writeCtrl_reset s h, State.softReset_config]

theorem State.writeCtrl_events (v : Half) (s : State) : (s.writeCtrl v).events = s.events := by
  cases h : v.getLsbD 6
  · rw [State.writeCtrl_keep s h]
  · rw [State.writeCtrl_reset s h, State.softReset_events]

theorem State.writeCtrl_peerResults (v : Half) (s : State) : (s.writeCtrl v).peerResults = s.peerResults := by
  cases h : v.getLsbD 6
  · rw [State.writeCtrl_keep s h]
  · rw [State.writeCtrl_reset s h, State.softReset_peerResults]

/-- A Control write sets no latch. -/
theorem State.writeCtrl_sets_no_latch (v : Half) (s : State) :
    ((s.writeCtrl v).intr = true → s.intr = true) ∧
      ((s.writeCtrl v).rxParity = true → s.rxParity = true) ∧
      ((s.writeCtrl v).rxBadStopBit = true → s.rxBadStopBit = true) := by
  cases hreset : v.getLsbD 6
  · rw [State.writeCtrl_keep s hreset]
    simp +contextual
  · rw [State.writeCtrl_reset s hreset]
    simp

/-! ## Each field, by the operations that write it -/

theorem State.after_config (i : Instr) (s : State) : (s.after i).config = s.config := by
  cases i with
  | wrData _ => exact s.invokeEarly_frame.config
  | wrMode _ | wrBaud _ | shutdown | peerRecv => rfl
  | wrCtrl _ => exact s.writeCtrl_config _
  | construct => exact State.softReset_config _
  | attach | detach | load _ => exact State.rescheduleIfNeeded_config _
  | _ => exact (s.after_frame rfl).config

/-- Outside the transfers the only outputs are read results and saved images. -/
theorem State.after_events_quiet {i : Instr} (s : State) (hfire : i ≠ .fire) (hdata : i ≠ .rdData)
    (hstat : i ≠ .rdStat) (hwrite : ∀ v, i ≠ .wrData v) :
    ∃ es, (s.after i).events = s.events ++ es ∧ ∀ e ∈ es, e.isSinkCall = false ∧ e.isConnWrite = false := by
  have silent : ∀ {t : State}, t.events = s.events →
      ∃ es, t.events = s.events ++ es ∧ ∀ e ∈ es, e.isSinkCall = false ∧ e.isConnWrite = false :=
    fun h => ⟨[], by rw [h, List.append_nil], by simp⟩
  cases i with
  | fire => exact absurd rfl hfire
  | rdData => exact absurd rfl hdata
  | rdStat => exact absurd rfl hstat
  | wrData v => exact absurd rfl (hwrite v)
  | rdMode | rdCtrl | rdBaud | rdUnk _ | save => exact ⟨[_], rfl, by simp [Event.isSinkCall, Event.isConnWrite]⟩
  | wrCtrl _ => exact silent (s.writeCtrl_events _)
  | construct => exact silent (State.softReset_events _)
  | attach | detach | load _ => exact silent (State.rescheduleIfNeeded_events _)
  | tick =>
    refine silent ?_
    rw [State.after, State.countTick]
    split <;> rfl
  | wrStat _ | wrUnk _ _ | wrMode _ | wrBaud _ | shutdown | linkUp | linkDown | peerSend _ _ | peerRecv =>
    exact silent rfl

theorem State.after_events (i : Instr) (s : State) : ∃ es, (s.after i).events = s.events ++ es := by
  cases i with
  | rdData | rdStat | fire => exact (s.after_frame rfl).outputs.imp fun _ h => h.1
  | wrData _ => exact s.invokeEarly_frame.outputs.imp fun _ h => h.1
  | _ => refine (s.after_events_quiet ?_ ?_ ?_ ?_).imp fun _ h => h.1 <;> nofun

theorem State.after_peerResults (i : Instr) (s : State) :
    ∃ rs, (s.after i).peerResults = s.peerResults ++ rs ∧ (rs ≠ [] → i = .peerRecv) := by
  have kept : ∀ {t : State}, t.peerResults = s.peerResults →
      ∃ rs, t.peerResults = s.peerResults ++ rs ∧ (rs ≠ [] → i = .peerRecv) :=
    fun h => ⟨[], by rw [h, List.append_nil], by simp⟩
  cases i with
  | peerRecv => exact ⟨_, rfl, fun _ => rfl⟩
  | wrData _ => exact kept s.invokeEarly_frame.peerResults
  | wrMode _ | wrBaud _ | shutdown => exact kept rfl
  | wrCtrl _ => exact kept (s.writeCtrl_peerResults _)
  | construct => exact kept (State.softReset_peerResults _)
  | attach | detach | load _ => exact kept (State.rescheduleIfNeeded_peerResults _)
  | _ => exact kept (s.after_frame rfl).peerResults

theorem State.after_evPeriod (i : Instr) (s : State) :
    (s.after i).evPeriod = s.evPeriod ∨
      (∃ v, i = .wrCtrl v ∧ v.getLsbD 6 = true) ∨ (∃ m, i = .load m) ∨ i = .attach ∨ i = .construct := by
  cases i with
  | wrCtrl value =>
    cases h : value.getLsbD 6
    · refine .inl ?_
      rw [State.after_wrCtrl_keep s h]
    · exact .inr (.inl ⟨value, rfl, h⟩)
  | load m => exact .inr (.inr (.inl ⟨m, rfl⟩))
  | attach => exact .inr (.inr (.inr (.inl rfl)))
  | construct => exact .inr (.inr (.inr (.inr rfl)))
  | detach =>
    refine .inl ?_
    rw [State.after, State.rescheduleIfNeeded_detached (s := s.setConn none) rfl]
    rfl
  | wrData _ => exact .inl s.invokeEarly_frame.evPeriod
  | wrMode _ | wrBaud _ | shutdown | peerRecv => exact .inl rfl
  | _ => exact .inl (s.after_frame rfl).evPeriod

/-- CTRL, MODE and BAUD keep their values but for the writers each of them has (10_state.md R32, R48, R50). -/
theorem State.after_registers (i : Instr) (s : State) :
    ((s.after i).ctrl = s.ctrl ∨ (∃ v, i = .wrCtrl v) ∨ (∃ m, i = .load m) ∨ i = .construct) ∧
    ((s.after i).mode = s.mode ∨ (∃ v, i = .wrMode v) ∨ (∃ v, i = .wrCtrl v ∧ v.getLsbD 6 = true) ∨
      (∃ m, i = .load m) ∨ i = .construct) ∧
    ((s.after i).baud = s.baud ∨ (∃ v, i = .wrBaud v) ∨ (∃ v, i = .wrCtrl v ∧ v.getLsbD 6 = true) ∨
      (∃ m, i = .load m) ∨ i = .construct) := by
  cases i with
  | wrMode value => exact ⟨.inl rfl, .inr (.inl ⟨value, rfl⟩), .inl rfl⟩
  | wrBaud value => exact ⟨.inl rfl, .inl rfl, .inr (.inl ⟨value, rfl⟩)⟩
  | wrCtrl value =>
    refine ⟨.inr (.inl ⟨value, rfl⟩), ?_⟩
    cases h : value.getLsbD 6
    · rw [State.after_wrCtrl_keep s h]
      exact ⟨.inl rfl, .inl rfl⟩
    · exact ⟨.inr (.inr (.inl ⟨value, rfl, h⟩)), .inr (.inr (.inl ⟨value, rfl, h⟩))⟩
  | load m =>
    exact ⟨.inr (.inr (.inl ⟨m, rfl⟩)), .inr (.inr (.inr (.inl ⟨m, rfl⟩))), .inr (.inr (.inr (.inl ⟨m, rfl⟩)))⟩
  | construct => exact ⟨.inr (.inr (.inr rfl)), .inr (.inr (.inr (.inr rfl))), .inr (.inr (.inr (.inr rfl)))⟩
  | attach | detach =>
    exact ⟨.inl (State.rescheduleIfNeeded_ctrl _), .inl (State.rescheduleIfNeeded_mode _),
      .inl (State.rescheduleIfNeeded_baud _)⟩
  | wrData _ => exact ⟨.inl s.invokeEarly_frame.ctrl, .inl s.invokeEarly_frame.mode, .inl s.invokeEarly_frame.baud⟩
  | shutdown | peerRecv => exact ⟨.inl rfl, .inl rfl, .inl rfl⟩
  | _ => exact ⟨.inl (s.after_frame rfl).ctrl, .inl (s.after_frame rfl).mode, .inl (s.after_frame rfl).baud⟩

/-- RXPARITY and RXBADSTOPBIT are set by the image of a LOAD alone (R45). -/
theorem State.after_lineLatches (i : Instr) (s : State) :
    ((s.after i).rxParity = true → s.rxParity = true ∨ ∃ m, i = .load m ∧ m.stat.getLsbD 3 = true) ∧
    ((s.after i).rxBadStopBit = true → s.rxBadStopBit = true ∨ ∃ m, i = .load m ∧ m.stat.getLsbD 5 = true) := by
  have kept : ∀ {t : State}, t.rxParity = s.rxParity → t.rxBadStopBit = s.rxBadStopBit →
      (t.rxParity = true → s.rxParity = true ∨ ∃ m, i = .load m ∧ m.stat.getLsbD 3 = true) ∧
      (t.rxBadStopBit = true → s.rxBadStopBit = true ∨ ∃ m, i = .load m ∧ m.stat.getLsbD 5 = true) :=
    fun hparity hstop => ⟨fun h => .inl (hparity.symm.trans h), fun h => .inl (hstop.symm.trans h)⟩
  cases i with
  | wrCtrl value =>
    obtain ⟨_, hparity, hstop⟩ := s.writeCtrl_sets_no_latch (lowHalf value)
    exact ⟨fun h => .inl (hparity h), fun h => .inl (hstop h)⟩
  | load m =>
    rw [State.load_after]
    exact ⟨fun h => .inr ⟨m, rfl, h⟩, fun h => .inr ⟨m, rfl, h⟩⟩
  | construct =>
    rw [State.after, State.construct_eq]
    exact ⟨nofun, nofun⟩
  | attach | detach => exact kept (State.rescheduleIfNeeded_rxParity _) (State.rescheduleIfNeeded_rxBadStopBit _)
  | wrData _ => exact kept s.invokeEarly_frame.rxParity s.invokeEarly_frame.rxBadStopBit
  | wrMode _ | wrBaud _ | shutdown | peerRecv => exact kept rfl rfl
  | _ => exact kept (s.after_frame rfl).rxParity (s.after_frame rfl).rxBadStopBit

/-! ## The latch INTR (60_exceptions.md R343, R345) -/

theorem State.after_intr_kept (i : Instr) {s : State} (h : s.intr = true) :
    (s.after i).intr = true ∨ (∃ v, i = .wrCtrl v ∧ (v.getLsbD 4 = true ∨ v.getLsbD 6 = true)) ∨
      (∃ m, i = .load m ∧ m.stat.getLsbD 9 = false) ∨ i = .construct := by
  cases i with
  | wrCtrl value =>
    cases hreset : value.getLsbD 6
    · rw [State.after_wrCtrl_keep s hreset, h]
      cases hack : value.getLsbD 4
      · exact .inl rfl
      · exact .inr (.inl ⟨value, rfl, .inl hack⟩)
    · exact .inr (.inl ⟨value, rfl, .inr hreset⟩)
  | load m =>
    rw [State.load_after]
    cases hbit : m.stat.getLsbD 9
    · exact .inr (.inr (.inl ⟨m, rfl, hbit⟩))
    · exact .inl hbit
  | construct => exact .inr (.inr (.inr rfl))
  | attach | detach => exact .inl ((State.rescheduleIfNeeded_intr _).trans h)
  | wrData _ => exact .inl (s.invokeEarly_frame.intr_kept h)
  | wrMode _ | wrBaud _ | shutdown | peerRecv => exact .inl h
  | _ => exact .inl ((s.after_frame rfl).intr_kept h)

theorem State.after_intr_set (i : Instr) {s : State} (h : s.intr = false) (ht : (s.after i).intr = true) :
    (∃ m, i = .load m ∧ m.stat.getLsbD 9 = true) ∨
      ∃ es e, (s.after i).events = s.events ++ es ∧ e ∈ es ∧ e.isSinkCall = true := by
  have raised : ∀ {t : State}, TransferFrame s t → t.intr = true →
      ∃ es e, t.events = s.events ++ es ∧ e ∈ es ∧ e.isSinkCall = true := by
    intro t frame hset
    obtain ⟨es, hes, hsink⟩ := frame.outputs
    obtain hwas | ⟨e, hmem, hcall⟩ := hsink hset
    · simp [h] at hwas
    · exact ⟨es, e, hes, hmem, hcall⟩
  have unset : s.intr ≠ true := by simp [h]
  cases i with
  | wrCtrl _ => exact absurd ((s.writeCtrl_sets_no_latch _).1 ht) unset
  | load m =>
    rw [State.load_after] at ht
    exact .inl ⟨m, rfl, ht⟩
  | construct => exact absurd ht (by rw [State.after, State.construct_eq]; nofun)
  | attach | detach => exact absurd ((State.rescheduleIfNeeded_intr _).symm.trans ht) unset
  | wrData _ => exact .inr (raised (t := s.invokeEarly) s.invokeEarly_frame ht)
  | wrMode _ | wrBaud _ | shutdown | peerRecv => exact absurd ht unset
  | _ => exact .inr (raised (s.after_frame rfl) ht)

/-! ## The invariant -/

theorem TransferFrame.inv {s t : State} (h : TransferFrame s t) (hinv : s.Inv) : t.Inv where
  fifo_le := h.fifo_le hinv.fifo_le
  period_pos := by
    rw [h.evActive, h.evPeriod]
    exact hinv.period_pos
  strobes_zero := by
    rw [h.ctrl]
    exact hinv.strobes_zero
  active_iff_attached := h.evActive.trans (hinv.active_iff_attached.trans h.attached.symm)
  attached_live := fun ht => h.life.trans (hinv.attached_live (h.attached.symm.trans ht))
  slice_pos := by
    rw [h.config]
    exact hinv.slice_pos

/-- A reschedule restores the clauses about the event, whatever it was before. -/
theorem State.rescheduleIfNeeded_inv {s : State} (hfifo : s.fifo.length ≤ fifoCap)
    (hstrobes : s.ctrl &&& 0x0050#16 = 0x0000#16) (hlive : s.connAttached = true → s.life = .live)
    (hslice : 1 ≤ s.config.maxSliceTicks) : s.rescheduleIfNeeded.Inv where
  fifo_le := by
    rw [s.rescheduleIfNeeded_fifo]
    exact hfifo
  period_pos := fun hactive => by
    rw [State.rescheduleIfNeeded_period (s.rescheduleIfNeeded_active.symm.trans hactive)]
    exact State.schedulePeriod_pos hslice
  strobes_zero := by
    rw [s.rescheduleIfNeeded_ctrl]
    exact hstrobes
  active_iff_attached := by
    rw [State.connAttached, s.rescheduleIfNeeded_active, s.rescheduleIfNeeded_conn]
  attached_live := by
    rw [State.connAttached, s.rescheduleIfNeeded_conn, s.rescheduleIfNeeded_life]
    exact hlive
  slice_pos := by
    rw [s.rescheduleIfNeeded_config]
    exact hslice

theorem storedCtrl_strobes (v : Half) : storedCtrl v &&& 0x0050#16 = 0x0000#16 := by
  have hmasks : 0xFFAF#16 &&& 0x0050#16 = 0x0000#16 := by decide
  rw [storedCtrl, BitVec.and_assoc, hmasks, BitVec.and_zero]

theorem State.softReset_inv (hinv : s.Inv) : s.softReset.Inv :=
  State.rescheduleIfNeeded_inv (s := s.resetRegisters) (Nat.zero_le _) BitVec.zero_and hinv.attached_live hinv.slice_pos

theorem State.writeCtrl_inv (v : Half) (hinv : s.Inv) : (s.writeCtrl v).Inv := by
  cases h : v.getLsbD 6
  · rw [State.writeCtrl_keep s h]
    exact { hinv with
      fifo_le := by
        split
        · exact Nat.zero_le _
        · exact hinv.fifo_le
      strobes_zero := storedCtrl_strobes v }
  · rw [State.writeCtrl_reset s h]
    exact State.softReset_inv hinv

theorem State.after_inv {i : Instr} (hinv : s.Inv) (hadm : s.Admits i) : (s.after i).Inv := by
  cases i with
  | wrData _ => exact { s.invokeEarly_frame.inv hinv with }
  | wrMode _ | wrBaud _ => exact { hinv with }
  | wrCtrl _ => exact State.writeCtrl_inv _ hinv
  | construct =>
    exact State.rescheduleIfNeeded_inv (s := State.resetRegisters { s.powerOn with life := .live }) (Nat.zero_le _)
      BitVec.zero_and (fun _ => rfl) hinv.slice_pos
  | shutdown => exact { hinv with period_pos := nofun, active_iff_attached := rfl, attached_live := nofun }
  | attach => exact State.rescheduleIfNeeded_inv hinv.fifo_le hinv.strobes_zero (fun _ => hadm.1) hinv.slice_pos
  | detach => exact State.rescheduleIfNeeded_inv hinv.fifo_le hinv.strobes_zero nofun hinv.slice_pos
  | load m =>
    exact State.rescheduleIfNeeded_inv (Nat.zero_le _) (storedCtrl_strobes m.ctrl) hinv.attached_live hinv.slice_pos
  | peerRecv => exact { (s.mapConn_frame _).inv hinv with }
  | _ => exact (s.after_frame rfl).inv hinv

theorem step_next {t : State} (h : step s = .next t) :
    ∃ i rest, decode s.script = .ok (i, rest) ∧ exec i (s.setScript rest) = .next t := by
  cases hdecode : decode s.script with
  | ok next => exact ⟨next.1, next.2, rfl, (step_of_decode_ok hdecode).symm.trans h⟩
  | error e =>
    rw [step_of_decode_error hdecode] at h
    cases h

end Sys2Proof.Machine

namespace Sys2Proof.Proofs

open Sys2Proof Sys2Proof.Machine

/-- Settles O42: the two directions in which INTR can change, by the operation. -/
theorem interruptLatchPersistsUntilAcknowledged : Obligations.InterruptLatchPersistsUntilAcknowledged := by
  intro i s t h
  obtain ⟨_, rfl⟩ := exec_next h
  exact ⟨fun hset hclear => (State.after_intr_kept i hset).resolve_left (by simp [hclear]), State.after_intr_set i⟩

/-- Settles O43: an operation that performs no transfer adds at most a read result or an image. -/
theorem onlyTransfersCallTheSink : Obligations.OnlyTransfersCallTheSink := by
  intro i s t h
  obtain ⟨_, rfl⟩ := exec_next h
  exact s.after_events_quiet

/-- Settles O44: every other operation keeps the period. -/
theorem periodChangesOnlyByReschedule : Obligations.PeriodChangesOnlyByReschedule := by
  intro i s t h
  obtain ⟨_, rfl⟩ := exec_next h
  exact (s.after_evPeriod i).resolve_left

/-- Settles O45: every operation but its writers keeps a register, and every one but LOAD keeps the latches unset. -/
theorem registersChangeOnlyByTheirWriters : Obligations.RegistersChangeOnlyByTheirWriters := by
  intro i s t h
  obtain ⟨_, rfl⟩ := exec_next h
  obtain ⟨hctrl, hmode, hbaud⟩ := s.after_registers i
  obtain ⟨hparity, hstop⟩ := s.after_lineLatches i
  exact ⟨hctrl.resolve_left, hmode.resolve_left, hbaud.resolve_left,
    fun hclear hset => (hparity hset).resolve_left (by simp [hclear]),
    fun hclear hset => (hstop hset).resolve_left (by simp [hclear])⟩

/-- Settles O46: the four operations are transfers and at most one update of FIFO, slot or history after them. -/
theorem operationsThatTransferKeepTheRest : Obligations.OperationsThatTransferKeepTheRest := by
  intro i s t h htransfers
  obtain ⟨_, rfl⟩ := exec_next h
  by_cases hwrite : ∃ v, i = .wrData v
  · obtain ⟨v, rfl⟩ := hwrite
    have frame := s.invokeEarly_frame
    exact ⟨frame.life, frame.config, frame.ctrl, frame.mode, frame.baud, frame.rxParity, frame.rxBadStopBit,
      frame.evActive, frame.evPeriod, frame.attached, frame.peerResults, frame.script, fun _ => ⟨v, rfl⟩,
      frame.intr_kept, frame.overrun_kept⟩
  · have hframe : Instr.withinFrame i = true := by
      rcases htransfers with rfl | rfl | rfl | hdata
      · rfl
      · rfl
      · rfl
      · exact absurd hdata hwrite
    have frame := s.after_frame hframe
    exact ⟨frame.life, frame.config, frame.ctrl, frame.mode, frame.baud, frame.rxParity, frame.rxBadStopBit,
      frame.evActive, frame.evPeriod, frame.attached, frame.peerResults, frame.script,
      fun hne => absurd frame.txByte hne, frame.intr_kept, frame.overrun_kept⟩

/-- Settles O47: taking an operation from the script touches no clause, and its effect keeps each of them. -/
theorem stepKeepsTheInvariant : Obligations.StepKeepsTheInvariant := by
  intro s t hinv h
  obtain ⟨i, rest, _, hexec⟩ := step_next h
  obtain ⟨hadm, rfl⟩ := exec_next hexec
  have hscript : (s.setScript rest).Inv := { hinv with }
  exact State.after_inv hscript hadm

/-- Settles O49: outputs and results, by the operation. -/
theorem outputsAreOnlyAppended : Obligations.OutputsAreOnlyAppended := by
  intro i s t h
  obtain ⟨_, rfl⟩ := exec_next h
  exact ⟨s.after_events i, s.after_peerResults i⟩

/-- Settles O50, by the operation. -/
theorem configurationIsNeverWritten : Obligations.ConfigurationIsNeverWritten := by
  intro i s t h
  obtain ⟨_, rfl⟩ := exec_next h
  exact s.after_config i

/-- Settles O51: the early invocation of the read leaves nothing due for the write, and the TXRDY it shows is that of
the slot the write fills. -/
theorem dataWriteAfterReadyStatusLosesNothing : Obligations.DataWriteAfterReadyStatusLosesNothing := by
  intro s value hinv hlive
  refine ⟨_, s.invokeEarly.status, exec_rdStat_live hlive, by simp, fun hready => ?_⟩
  have hslot : s.invokeEarly.txFull = false := by
    rw [State.status_bit] at hready
    simpa using hready
  have hidle := State.invokeEarly_not_due (s := s.invokeEarly.emit (.readResult s.invokeEarly.status))
    (State.invokeEarly_leaves_nothing_due hinv)
  refine ⟨hslot, (whenLive_live _ (s.invokeEarly_frame.life.trans hlive)).trans ?_⟩
  rw [hidle, lowByte_eq]
  rfl

end Sys2Proof.Proofs
end
